-- ==== Sys2Proof/Word.lean ====
section
/-! DEFINITION. The word and byte types of the EJ412 (00_scope.md section 3.1). -/

namespace Sys2Proof

/-- A word is 16 bits: low byte lane bits 7..0, high byte lane bits 15..8 (section 3.1). -/
abbrev Word := BitVec 16

/-- A byte of a link frame or one byte lane of a word. -/
abbrev Byte := BitVec 8

end Sys2Proof
end

