-- ==== Sys2Proof/Syntax.lean ====
section
/-! DEFINITION. The commands of the EJ412: one constructor per row of spec/opcode_table.json.

The table gives a row no bits and no operands; a constructor's operands are the ones its rule speaks of.
An index type counts from 0: slot, bay, zone, uplink and fan n of the manual are index n - 1;
banks, columns, command slots and endpoints carry the manual's own numbers. -/

namespace Sys2Proof

/-- Blade slot n (1..12) is index n - 1 (section 3.2). -/
abbrev SlotId := Fin 12
/-- Supply bay i (1..4) is index i - 1. -/
abbrev BayId := Fin 4
/-- Fan zone z (1..3) is index z - 1. -/
abbrev ZoneId := Fin 3
/-- Fan f (1..6) is index f - 1 (section 3.4). -/
abbrev FanId := Fin 6
/-- Uplink u (1..4) is index u - 1. -/
abbrev UplinkId := Fin 4
/-- SDRAM bank 0..3. -/
abbrev BankId := Fin 4
/-- Link endpoint 0..19 (section 3.3). -/
abbrev Endpoint := Fin 20
/-- Command slot 0..31 of the intake row. -/
abbrev CommandSlot := Fin 32
/-- Reading record: index 0..11 blades 1..12, index 12..14 the fan modules of zones 1..3 (07, R129). -/
abbrev SourceId := Fin 15

/-- The two byte masks of a transfer slot, `true` = high = masked (R13). -/
structure Masks where
  low  : Bool := false
  high : Bool := false
  deriving DecidableEq, Repr

/-- The command strobes of a transfer slot, `true` = high (section 1.2). -/
structure Strobes where
  chipSelect   : Bool := true
  rowStrobe    : Bool := true
  columnStrobe : Bool := true
  writeEnable  : Bool := true
  deriving DecidableEq, Repr

/-- The command lines of a transfer slot on the processor side, all but the masks (R1, section 1.2); `true` = high. -/
structure CommandLines where
  strobes     : Strobes := {}
  clockEnable : Bool := true
  bank        : BankId := 0
  address     : BitVec 13 := 0
  deriving DecidableEq, Repr

/-! R1 re-drives every line of a transfer slot, so a row of the stream carries, with its masks, the lines that R2's table
leaves open for it. -/

/-- A read's or write's: address lines 12..11; line 10 is the auto-precharge flag, lines 9..0 the column. -/
structure AccessLines extends Masks where
  upper : BitVec 2 := 0
  deriving DecidableEq, Repr

/-- A precharge's: address lines 12..11 and 9..0; line 10 is low. -/
structure PrechargeLines extends Masks where
  upper : BitVec 2 := 0
  lower : BitVec 10 := 0
  deriving DecidableEq, Repr

/-- A precharge-all's: the bank lines and address lines 12..11 and 9..0; line 10 is high. -/
structure PrechargeAllLines extends PrechargeLines where
  bank : BankId := 0
  deriving DecidableEq, Repr

/-- An auto refresh's, self-refresh entry's, burst stop's or no-operation's: the bank and address lines. -/
structure AddressLines extends Masks where
  bank    : BankId := 0
  address : BitVec 13 := 0
  deriving DecidableEq, Repr

/-- A deselect's: every line but chip select, which is high. -/
structure DeselectLines extends AddressLines where
  rowStrobe    : Bool := true
  columnStrobe : Bool := true
  writeEnable  : Bool := true
  deriving DecidableEq, Repr

/-- A self-refresh exit's or a clock-low slot's: every line but the clock enable. -/
structure StrobeLines extends AddressLines where
  strobes : Strobes := {}
  deriving DecidableEq, Repr

/-- The direction of a burst, or of a data word: toward the management processor or toward the SDRAM device (R1, R10). -/
inductive Direction where
  | read | write
  deriving DecidableEq, Repr

/-- A data word on the bus with the direction it travels in (R1). -/
structure BusWord where
  direction : Direction
  data      : Word
  deriving DecidableEq, Repr

/-- The strap pins as sampled at a chassis reset (R15). -/
structure Straps where
  windowBank : BankId
  windowBase : Fin 32
  autoPower  : Bool
  redundancy : Fin 4
  deriving DecidableEq, Repr

/-- The two status lines of a supply bay (R102). -/
inductive SupplyLine where
  | present
  | ok
  deriving DecidableEq, Repr

/-- One constructor per row of spec/opcode_table.json, in the table's order. -/
inductive Instr where
  -- SDRAM command stream: each of these is one transfer slot, with the byte masks sampled in it (R2, R13)
  | activate (bank : BankId) (row : BitVec 13) (masks : Masks)
  | read (bank : BankId) (column : BitVec 10) (autoPrecharge : Bool) (lines : AccessLines)
  | write (bank : BankId) (column : BitVec 10) (autoPrecharge : Bool) (lines : AccessLines)
  | precharge (bank : BankId) (lines : PrechargeLines)
  | prechargeAll (lines : PrechargeAllLines)
  | autoRefresh (lines : AddressLines)
  | selfRefreshEntry (lines : AddressLines)
  /-- The first slot with the clock enable high again, whatever its strobes (R8). -/
  | selfRefreshExit (lines : StrobeLines)
  /-- The mode value lies on the bank address and address lines (R5). -/
  | modeRegisterSet (bank : BankId) (value : BitVec 13) (masks : Masks)
  | burstStop (lines : AddressLines)
  | noOperation (lines : AddressLines)
  | deselect (lines : DeselectLines)
  | clockSuspend (lines : StrobeLines)
  /-- The data word on the bus: the processor's, toward the SDRAM device, or the device's, toward the processor (R1, R14). -/
  | burstWordTransfer (word : BusWord)
  -- the taking of the command at the head of the intake queue (R23)
  | sync
  | powerOn
  | powerOff
  | setGuard
  | clearFault
  | setSlotTiming
  | setButton
  | setRedundancy
  | setBaseLoad
  | setPriority
  | overrideClass
  | setSupplyRating
  | cancelRequest
  | loadCurve
  | setZoneLimits
  | setFanMode
  | setOffset
  | setGroup
  | setPin
  | setFailback
  | fetchPages
  | dropPages
  | selectView
  | reread
  | ackEvent
  | setAttention
  -- resets
  | processorReset
  | processorResetRelease
  | chassisReset (straps : Straps)
  -- slot links
  | answerReceived (endpoint : Endpoint) (bytes : List Byte)
  | transactionTimeout
  | reconnectTimerExpiry (endpoint : Endpoint)
  | pollTimerExpiry (endpoint : Endpoint)
  -- blade slots
  | presenceLineChange (slot : SlotId) (level : Bool)
  | removal (slot : SlotId)
  | presenceDebounceExpiry (slot : SlotId)
  | identificationTimerExpiry (slot : SlotId)
  | powerGoodRise (slot : SlotId)
  | rampTimerExpiry (slot : SlotId)
  | powerGoodFall (slot : SlotId)
  /-- `level` true is the rise the row names; false lowers the line, for which the table has no row. -/
  | overcurrentRise (slot : SlotId) (level : Bool)
  | stopTimerExpiry (slot : SlotId)
  | buttonLineChange (slot : SlotId) (level : Bool)
  | buttonDebounceExpiry (slot : SlotId)
  -- supplies and caps
  | supplyLineChange (bay : BayId) (line : SupplyLine) (level : Bool)
  | supplyDebounceExpiry (bay : BayId) (line : SupplyLine)
  | capTimerExpiry (slot : SlotId)
  -- thermal zones and fans
  | freshnessTimerExpiry (source : SourceId)
  | zoneUpdate (zone : ZoneId)
  | tachPulse (fan : FanId)
  | modulePresentLineChange (zone : ZoneId) (level : Bool)
  | moduleDebounceExpiry (zone : ZoneId)
  | graceTimerExpiry (zone : ZoneId)
  -- uplinks
  | uplinkLinkChange (uplink : UplinkId) (level : Bool)
  | farEndFaultChange (uplink : UplinkId) (level : Bool)
  | speedLineChange (uplink : UplinkId) (code : Fin 4)
  | upHoldOffExpiry (uplink : UplinkId)
  | downHoldOffExpiry (uplink : UplinkId)
  | failbackTimerExpiry (slot : SlotId)
  -- the remaining rows of the table
  | unknownCommand
  | chassisResetRelease
  | requestFrameSent
  deriving DecidableEq, Repr

end Sys2Proof
end

