-- ==== Sys2Proof/Decode.lean ====
section
/-! DEFINITION. What bits the spec gives for commands: the command strobes of the SDRAM path (R2) and the
command codes of the post word (R25). spec/opcode_table.json gives no row any bits, so no table word spells a command. -/

namespace Sys2Proof

/-- R2's strobe table: the command row that one transfer slot carries. `clockWasHigh` is the clock enable of the slot
before it, `afterEntry` that the clock enable has been low since a self-refresh entry. Address line 10 is the
auto-precharge flag of an access and tells a precharge-all from a precharge; the column is the ten low lines. -/
def decodeLines (clockWasHigh afterEntry : Bool) (l : CommandLines) (masks : Masks) : Instr :=
  let line10 := l.address.getLsbD 10
  let lower := l.address.extractLsb' 0 10
  let upper := l.address.extractLsb' 11 2
  let k := l.strobes
  let addressed : AddressLines := { masks with bank := l.bank, address := l.address }
  if l.clockEnable then
    if afterEntry then .selfRefreshExit { addressed with strobes := k }
    else
      match k.chipSelect, k.rowStrobe, k.columnStrobe, k.writeEnable with
      | true, r, c, w => .deselect { addressed with rowStrobe := r, columnStrobe := c, writeEnable := w }
      | false, true, true, true => .noOperation addressed
      | false, false, true, true => .activate l.bank l.address masks
      | false, true, false, true => .read l.bank lower line10 { masks with upper := upper }
      | false, true, false, false => .write l.bank lower line10 { masks with upper := upper }
      | false, true, true, false => .burstStop addressed
      | false, false, true, false =>
        if line10 then .prechargeAll { masks with bank := l.bank, upper := upper, lower := lower }
        else .precharge l.bank { masks with upper := upper, lower := lower }
      | false, false, false, true => .autoRefresh addressed
      | false, false, false, false => .modeRegisterSet l.bank l.address masks
  else
    match clockWasHigh, k.chipSelect, k.rowStrobe, k.columnStrobe, k.writeEnable with
    | true, false, false, false, true => .selfRefreshEntry addressed
    | _, _, _, _, _ => .clockSuspend { addressed with strobes := k }

/-- R25's command list read by code: the row that takes a queued command with this code (R24, check 1). -/
def commandOfCode (code : Byte) : Instr :=
  match code.toNat with
  | 0x01 => .sync
  | 0x10 => .powerOn
  | 0x11 => .powerOff
  | 0x12 => .setGuard
  | 0x13 => .clearFault
  | 0x14 => .setSlotTiming
  | 0x15 => .setButton
  | 0x20 => .setRedundancy
  | 0x21 => .setBaseLoad
  | 0x22 => .setPriority
  | 0x23 => .overrideClass
  | 0x24 => .setSupplyRating
  | 0x25 => .cancelRequest
  | 0x30 => .loadCurve
  | 0x31 => .setZoneLimits
  | 0x32 => .setFanMode
  | 0x33 => .setOffset
  | 0x40 => .setGroup
  | 0x41 => .setPin
  | 0x42 => .setFailback
  | 0x50 => .fetchPages
  | 0x51 => .dropPages
  | 0x52 => .selectView
  | 0x53 => .reread
  | 0x60 => .ackEvent
  | 0x61 => .setAttention
  | _ => .unknownCommand

/-- The command a table word spells: none, since spec/opcode_table.json gives no row any bits. -/
def decodeTableWord (_nbits _w : Nat) : Option Instr := none

end Sys2Proof
end

