-- ==== Sys2Proof/Config.lean ====
section
/-! DEFINITION. What the manual leaves to the implementation: free values, constants without a body. -/

namespace Sys2Proof

/-- DESIGN CHOICE (log 22, safe): what a fan's last-rpm column shows for an rpm above 65535. R144 gives the rpm as
pulses times 30 and no width for it, and the column is one word: the word shown then is a free value of the rpm. -/
opaque Config.rpmOverflow : Nat → Word

end Sys2Proof
end

