-- ==== Sys2Proof/Machine/Constants.lean ====
section
/-! DEFINITION. The fixed periods and counts that the rules state, in the manual's units. -/

namespace Sys2Proof.Machine

/-- R36: the transaction timer, ms. -/
def transactionPeriod : Nat := 5
/-- R41: the reconnect timer, ms. -/
def reconnectPeriod : Nat := 2000
/-- R42: the poll period of a blade or fan module, ms. -/
def pollPeriod : Nat := 250
/-- R42: the poll period of the switch module, ms. -/
def switchPollPeriod : Nat := 1000
/-- R75: the identification timer, ms. -/
def identificationPeriod : Nat := 2000
/-- R82: the ramp timer, ms. -/
def rampPeriod : Nat := 200
/-- R100: the debounce interval after chassis reset, ms. -/
def defaultDebounce : Nat := 20
/-- R100: the stop timeout after chassis reset, s. -/
def defaultStopTimeout : Nat := 120
/-- R102: the debounce of a supply line, ms. -/
def supplyDebounce : Nat := 10
/-- R121: the cap timer, ms. -/
def capPeriod : Nat := 2000
/-- R127: the base load after chassis reset, W. -/
def defaultBaseLoad : Nat := 300
/-- R127: every slot's priority after chassis reset. -/
def defaultPriority : Nat := 2
/-- R129: the freshness timer, ms. -/
def freshnessPeriod : Nat := 750
/-- R132: the update timer, ms. -/
def updatePeriod : Nat := 1000
/-- R142: the debounce of a module-present line, ms. -/
def moduleDebounce : Nat := 20
/-- R66: rated watts per fan when the record supplies none. -/
def defaultWattsPerFan : Nat := 60
/-- R66: minimum rpm when the record supplies none. -/
def defaultMinimumRpm : Nat := 1500
/-- R155: the up hold-off, ms. -/
def upHoldOff : Nat := 1000
/-- R156: the down hold-off, ms. -/
def downHoldOff : Nat := 300
/-- R172: the failback hold after chassis reset, s. -/
def defaultFailbackHold : Nat := 30
/-- R66, R172: the effective port speed when no shared ability is known, Mb/s. -/
def defaultPortSpeed : Nat := 1000
/-- Seconds to milliseconds. -/
def seconds (n : Nat) : Nat := n * 1000
/-- R17: the columns the shadow covers. -/
def shadowColumns : Nat := 292
/-- R59: the page frames of the pool. -/
def poolFrames : Nat := 48
/-- R134: the temperature word of an unused curve point (2.8.2). -/
def unusedPoint : Word := 0x7FFF#16

end Sys2Proof.Machine
end

