-- ==== Sys2Proof/Machine/State.lean ====
section
/-! DEFINITION. The state of the EJ412: every record the manual gives its nine blocks, as plain data,
and the state at a chassis reset. Outputs that the manual makes functions of a record (slot enables, PWM, the
attention line, supply states, the budget figures) are computed from it and never stored. -/

namespace Sys2Proof.Machine

/-- A timer: none = not running, else the period in ms it was started with. Its expiry is a command (log 6). -/
abbrev Timer := Option Nat

/-! ## Path Tracker (01) -/

/-- Section 1.4. -/
inductive PathState where
  | uninit | primed | ready | modeFault | sleep
  deriving DecidableEq, Repr

/-- R3: a bank record. -/
inductive Bank where
  | idle
  | active (row : BitVec 13)
  deriving DecidableEq, Repr

/-- R5: the burst length field. -/
inductive BurstLength where
  | one | two | four | eight | fullRow
  deriving DecidableEq, Repr

/-- R5: the burst type field. -/
inductive BurstType where
  | sequential | interleaved
  deriving DecidableEq, Repr

/-- R5: the read latency field. -/
inductive ReadLatency where
  | two | three
  deriving DecidableEq, Repr

/-- R5: the four values of a valid mode; `singleWrite` is write-burst mode Single. -/
structure ModeFields where
  length      : BurstLength
  type        : BurstType
  latency     : ReadLatency
  singleWrite : Bool
  deriving DecidableEq, Repr

/-- Section 1.3: the mode in effect; an invalid one keeps its value for column 1 (log 23). -/
inductive Mode where
  | none
  | valid (fields : ModeFields)
  | invalid (value : BitVec 13)
  deriving DecidableEq, Repr

/-- R10: the window row a burst falls in. -/
inductive WindowRow where
  | outside | intake | status | catalogue
  deriving DecidableEq, Repr

/-- R10, R12, R30: a burst. `elapsed` counts the counted slots since its command, `next` is the first word that has
not had its slot, `limit` the number of words that take part (none: full row, until ended), `columns` the columns that
transferred, in order; their number is the words-transferred count. -/
structure Burst where
  bank          : BankId
  row           : BitVec 13
  start         : BitVec 10
  direction     : Direction
  length        : BurstLength
  type          : BurstType
  latency       : Nat
  autoPrecharge : Bool
  window        : WindowRow
  elapsed       : Nat
  next          : Nat
  limit         : Option Nat
  columns       : List Nat
  snapshot      : List Word
  deriving DecidableEq, Repr

/-- The model's own (log 32): can words of a read without a burst cross. `running`: such a read may be under way in the
SDRAM device; `ending`: it has ended, and words of it can cross in this many slots, the current one included. -/
inductive LooseRead where
  | over | running | ending (slots : Nat)
  deriving DecidableEq, Repr

/-- The model's own (log 32): a write command that starts no burst, whose words still travel toward the SDRAM device (R1).
`left` counts the slots from the current one on that can carry one of its words, none = until a command ends it; `crossed`
says that the current slot's word has crossed. -/
structure LooseWrite where
  bank    : BankId
  left    : Option Nat
  crossed : Bool := false
  deriving DecidableEq, Repr

/-- R12: how a burst ends. -/
inductive EndReason where
  | complete | interrupted | stopped | precharged
  deriving DecidableEq, Repr

/-- R14: the burst-end notice handed to the Window Decoder. -/
structure BurstNotice where
  window  : WindowRow
  columns : List Nat
  reason  : EndReason
  deriving DecidableEq, Repr

/-- The byte lanes of a data word; none = the lane is not driven (R13). -/
structure Lanes where
  low  : Option Byte := none
  high : Option Byte := none
  deriving DecidableEq, Repr

/-- R1, R14: what crosses the EJ412 in one transfer slot: every command line and the masks toward the SDRAM device, write
data toward it and read data toward the management processor. -/
structure SlotLines where
  command   : CommandLines := {}
  masks     : Masks := {}
  writeData : Lanes := {}
  readData  : Lanes := {}
  deriving DecidableEq, Repr

/-- R13: the masks sampled in the current counted slot, in the one before it and in the one before that. -/
structure SampledMasks where
  now      : Masks := {}
  oneBack  : Masks := {}
  twoBack  : Masks := {}
  deriving DecidableEq, Repr

/-- The Path Tracker's records (R3, R5, R6, R10, R12, R13) and the lines it re-drives (R1). `looseWrite`
and `looseRead` are the model's own (log 32): the write and the read under way that have no burst. A reset leaves the device
with reads the tracker does not know, so `looseRead` starts as running. -/
structure Path where
  state        : PathState := .uninit
  mode         : Mode := .none
  banks        : Vector Bank 4 := Vector.replicate 4 .idle
  refreshCount : Nat := 0
  modeSeen     : Bool := false
  burst        : Option Burst := none
  trailing     : List Burst := []
  looseWrite   : Option LooseWrite := none
  looseRead    : LooseRead := .running
  masks        : SampledMasks := {}
  arrived      : SlotLines := {}
  driven       : SlotLines := {}
  deriving DecidableEq, Repr

/-! ## Window Decoder (02) -/

/-- R19: a command record latched from the shadow, with its command slot. -/
structure CommandRecord where
  slot : CommandSlot
  code : Byte
  tag  : Byte
  a0 : Word
  a1 : Word
  a2 : Word
  a3 : Word
  a4 : Word
  a5 : Word
  a6 : Word
  deriving DecidableEq, Repr

/-- R23: a completion pair; result 0 is NONE. -/
structure Completion where
  result : Byte := 0
  tag    : Byte := 0
  detail : Word := 0
  deriving DecidableEq, Repr

/-- The Window Decoder's records. A command slot is PENDING exactly while the queue lists it (R22). -/
structure Window where
  shadow          : List Host.Cell := []
  postList        : List CommandSlot := []
  queue           : List CommandRecord := []
  completions     : Vector Completion 32 := Vector.replicate 32 {}
  collisionSlot   : Byte := 0
  collisionCount  : Nat := 0
  postsAccepted   : Word := 0
  lastCompleted   : Option (CommandSlot × Byte) := none
  latchedPresence : BitVec 12 := 0
  deriving DecidableEq, Repr

/-! ## Link Engine (03) -/

/-- Section 3.4. -/
inductive LinkState where
  | absent | contact | up | lost
  deriving DecidableEq, Repr

/-- Section 3.4: a link record. -/
structure LinkRecord where
  state          : LinkState := .absent
  failures       : Nat := 0
  pollTimer      : Timer := none
  reconnectTimer : Timer := none
  presenceCount  : Nat := 0
  deriving DecidableEq, Repr

/-- R37: the transaction kinds. -/
inductive TransactionKind where
  | ident | page | poll | cap | halt | pins
  deriving DecidableEq, Repr

/-- Section 3.6: who made a request. -/
inductive Requester where
  | slotController | budgetUnit | uplinkAllocator | inventoryStore | linkEngine
  deriving DecidableEq, Repr

/-- Section 3.6: a pending entry; `argument` is the page number of a PAGE, the watts of a CAP, else 0. -/
structure Request where
  endpoint  : Endpoint
  kind      : TransactionKind
  argument  : Nat
  requester : Requester
  deriving DecidableEq, Repr

/-- R45: the transaction in flight. `table` is the pin table a PINS sent: uplink 0..4 and rate per blade.
The transaction timer runs from the end of the request (R36). -/
structure Transaction where
  endpoint      : Endpoint
  kind          : TransactionKind
  argument      : Nat
  table         : List (Nat × Nat)
  requester     : Requester
  presenceCount : Nat
  frame         : List Byte
  timer         : Timer
  /-- The model's own: sent to a blade while its slot was in STANDBY (R27, log 41). -/
  fromStandby   : Bool := false
  deriving DecidableEq, Repr

/-- The Link Engine's records; `table` is the pending table. -/
structure LinkEngine where
  records  : Vector LinkRecord 20 := (Vector.replicate 20 {}).set 0 { state := .contact }
  table    : List Request := [⟨0, .ident, 0, .inventoryStore⟩]
  inFlight : Option Transaction := none
  pointer  : Endpoint := 0
  deriving DecidableEq, Repr

/-- R36: why a transaction failed. -/
inductive FailureKind where
  | timeout | check | refused | length
  deriving DecidableEq, Repr

/-- R36, R46: the result of a judged transaction. -/
inductive TransactionResult where
  | success (data : List Byte)
  | failed (kind : FailureKind)
  deriving DecidableEq, Repr

/-! ## Inventory Store (04) -/

/-- Section 4.2. -/
inductive RecordState where
  | absent | reading | valid | bad
  deriving DecidableEq, Repr

/-- R51: the fields of an accepted identity page; a field its kind does not examine is 0. -/
structure Identity where
  kind      : Byte
  model     : Word
  revision  : Byte
  serial    : List Byte
  pageCount : Nat
  field1    : Nat
  field2    : Nat
  abilities : BitVec 3
  deriving DecidableEq, Repr

/-- Section 4.4: the state of a held page. -/
inductive PageState where
  | waiting | read | bad
  deriving DecidableEq, Repr

/-- R59, R60: a held page: its frame, its state, its repeat mark and its data while READ. -/
structure Page where
  frame      : Nat
  state      : PageState := .waiting
  repeatMark : Bool := false
  data       : List Byte := []
  deriving DecidableEq, Repr

/-- Section 4.2: an endpoint's record; `fetch` is the page number awaited while a fetch is in progress. -/
structure InventoryRecord where
  state     : RecordState := .absent
  fields    : Option Identity := none
  retryMark : Bool := false
  pages     : List Page := []
  fetch     : Option Nat := none
  deriving DecidableEq, Repr

/-- The Inventory Store's records; `free` is the free list of frames (R59), the view is the aperture selection (R64). -/
structure Inventory where
  records      : Vector InventoryRecord 20 := (Vector.replicate 20 {}).set 0 { state := .reading }
  free         : List Nat := List.range poolFrames
  viewEndpoint : Endpoint := 0
  viewPage     : Nat := 1
  deriving DecidableEq, Repr

/-! ## Slot Controller (05) -/

/-- Section 5.2. -/
inductive SlotState where
  | empty | settling | auxOn | standby | queued | ramping | on | stopping | faulted
  deriving DecidableEq, Repr

/-- R90 to R92. -/
inductive FaultReason where
  | noLink | ramp | powerLost | overcurrent | thermal
  deriving DecidableEq, Repr

/-- R96. -/
inductive ButtonEdge where
  | press | release
  deriving DecidableEq, Repr

/-- R96. -/
inductive ButtonAction where
  | report | powerToggle
  deriving DecidableEq, Repr

/-- R78: the origin of a power request. -/
inductive Origin where
  | processor | button | auto | blade
  deriving DecidableEq, Repr

/-- Section 5.2: a slot record. Levels are `true` = high; the debounced button is `true` = held. -/
structure SlotRecord where
  state               : SlotState := .empty
  fault               : Option FaultReason := none
  rawPresence         : Bool := false
  presence            : Bool := false
  rawButton           : Bool := false
  button              : Bool := false
  powerGood           : Bool := false
  overcurrent         : Bool := false
  presenceTimer       : Timer := none
  buttonTimer         : Timer := none
  identificationTimer : Timer := none
  rampTimer           : Timer := none
  stopTimer           : Timer := none
  guardLevel          : Nat := 3
  debounce            : Nat := defaultDebounce
  stopTimeout         : Nat := defaultStopTimeout
  buttonEdge          : ButtonEdge := .press
  buttonAction        : ButtonAction := .report
  deriving DecidableEq, Repr

/-! ## Budget Unit (06) -/

/-- R106. -/
inductive Redundancy where
  | none | nPlusOne | feedSplit
  deriving DecidableEq, Repr

/-- R102, R105: a supply bay. Its state and effective rating are computed. -/
structure Supply where
  rawPresent   : Bool := false
  rawOk        : Bool := false
  present      : Bool := false
  ok           : Bool := false
  presentTimer : Timer := none
  okTimer      : Timer := none
  override     : Option Nat := none
  deriving DecidableEq, Repr

/-- A class: the largest and smallest allocation a blade may hold. -/
structure PowerClass where
  max   : Nat
  floor : Nat
  deriving DecidableEq, Repr

/-- R110: a budget record. `fixedClass` is the class in effect of a powered blade; the cap-pending mark is the
presence of `capTarget`. -/
structure BudgetRecord where
  priority        : Nat := defaultPriority
  allocation      : Nat := 0
  fixedClass      : PowerClass := ⟨0, 0⟩
  capTarget       : Option Nat := none
  confirmedCap    : Nat := 0
  thermalFlag     : Bool := false
  override        : Option PowerClass := none
  pendingClassMax : Option Nat := none
  capTimer        : Timer := none
  deriving DecidableEq, Repr

/-- R111: an entry of the admission queue. -/
structure QueueEntry where
  slot    : SlotId
  origin  : Origin
  arrival : Nat
  deriving DecidableEq, Repr

/-- The Budget Unit's records. `evaluationDue` is the model's own: an input of the evaluation has changed within the
event under way (R115). `figuresShown` is clear from the chassis reset to the first evaluation (R127). -/
structure Budget where
  supplies       : Vector Supply 4 := Vector.replicate 4 {}
  redundancy     : Redundancy := .none
  baseLoad       : Nat := defaultBaseLoad
  fanAllocations : Vector Nat 3 := Vector.replicate 3 0
  records        : Vector BudgetRecord 12 := Vector.replicate 12 {}
  queue          : List QueueEntry := []
  arrivals       : Nat := 0
  admitted       : List SlotId := []
  overcommit     : Bool := false
  figuresShown   : Bool := false
  evaluationDue  : Bool := false
  deriving DecidableEq, Repr

/-! ## Thermal Unit (07) -/

/-- R129: a reading record. -/
structure Reading where
  value  : Int := 0
  fresh  : Bool := false
  timer  : Timer := none
  offset : Int := 0
  deriving DecidableEq, Repr

/-- R134: a curve point. -/
structure CurvePoint where
  temperature : Int
  duty        : Nat
  deriving DecidableEq, Repr

/-- Section 7.3: the reset curve. -/
def resetCurve : List CurvePoint := [⟨40, 300⟩, ⟨60, 400⟩, ⟨72, 650⟩, ⟨90, 1000⟩]

/-- R140: a zone's seven limits with their defaults; the steps in per-mille, the grace in seconds. -/
structure ZoneLimits where
  floor    : Nat := 250
  critical : Int := 90
  shutdown : Int := 100
  stale    : Int := 90
  upStep   : Nat := 100
  downStep : Nat := 50
  grace    : Nat := 60
  deriving DecidableEq, Repr

/-- A zone record (07). Both PWM outputs stand at `duty` (R141); the fan allocation is the Budget Unit's (log 26). -/
structure Zone where
  manual        : Bool := false
  manualDuty    : Nat := 1000
  curve         : List CurvePoint := resetCurve
  limits        : ZoneLimits := {}
  temperature   : Int := 90
  duty          : Nat := 1000
  critical      : Bool := false
  shutdownCount : Nat := 0
  graceTimer    : Timer := none
  graceExpired  : Bool := false
  updateTimer   : Timer := none
  rawModule     : Bool := false
  module        : Bool := false
  moduleTimer   : Timer := none
  lowDuty       : Bool := false
  wattsPerFan   : Nat := defaultWattsPerFan
  minimumRpm    : Nat := defaultMinimumRpm
  deriving DecidableEq, Repr

/-- Section 7.6. -/
inductive FanState where
  | absent | ok | failed
  deriving DecidableEq, Repr

/-- R144, R145: a fan record. -/
structure Fan where
  state       : FanState := .absent
  rpm         : Nat := 0
  pulses      : Nat := 0
  lowWindows  : Nat := 0
  goodWindows : Nat := 0
  firstWindow : Bool := false
  deriving DecidableEq, Repr

/-- The Thermal Unit's records. -/
structure Thermal where
  readings : Vector Reading 15 := Vector.replicate 15 {}
  zones    : Vector Zone 3 := Vector.replicate 3 {}
  fans     : Vector Fan 6 := Vector.replicate 6 {}
  deriving DecidableEq, Repr

/-! ## Uplink Allocator (08) -/

/-- Section 8.1: an uplink record; `up` is the declared state. -/
structure Uplink where
  up        : Bool := false
  capacity  : Nat := 0
  group     : Nat
  link      : Bool := false
  speed     : Fin 4 := 0
  fault     : Bool := false
  upTimer   : Timer := none
  downTimer : Timer := none
  deriving DecidableEq, Repr

/-- Section 8.4: a pin record; none as an uplink is uplink 0. -/
structure Pin where
  preferred     : Option UplinkId
  weight        : Nat := 10
  active        : Option UplinkId := none
  rate          : Nat := 0
  portSpeed     : Nat := defaultPortSpeed
  failbackTimer : Timer := none
  confirmed     : Option (Nat × Nat) := none
  deriving DecidableEq, Repr

/-- The Uplink Allocator's records. -/
structure Uplinks where
  ports        : Vector Uplink 4 := #v[{ group := 0 }, { group := 0 }, { group := 1 }, { group := 1 }]
  pins         : Vector Pin 12 := #v[
    { preferred := some 0 }, { preferred := some 1 }, { preferred := some 2 }, { preferred := some 3 },
    { preferred := some 0 }, { preferred := some 1 }, { preferred := some 2 }, { preferred := some 3 },
    { preferred := some 0 }, { preferred := some 1 }, { preferred := some 2 }, { preferred := some 3 }]
  failbackHold : Nat := defaultFailbackHold
  switchReady  : Bool := false
  deriving DecidableEq, Repr

/-! ## Event List (09) -/

/-- R174. -/
inductive EventKind where
  | link | inventory | power | fault | button | supply | fan | thermal | uplink | budget | path | collision
  deriving DecidableEq, Repr

/-- R174: an entry; the source in the numbering of section 3.3. -/
structure EventEntry where
  source : Nat
  kind   : EventKind
  count  : Nat
  detail : Word
  deriving DecidableEq, Repr

/-- The Event List's records (R174, R177). -/
structure EventList where
  entries : List EventEntry := []
  mask    : BitVec 13 := 0x1FFF#13
  deriving DecidableEq, Repr

/-! ## The block -/

/-- The whole state: the queue of waiting commands, the reset lines, the latched straps and the nine blocks. -/
structure State where
  pending        : List Instr
  chassisReset   : Bool
  processorReset : Bool
  straps         : Straps
  path           : Path
  window         : Window
  link           : LinkEngine
  inventory      : Inventory
  slots          : Vector SlotRecord 12
  budget         : Budget
  thermal        : Thermal
  uplinks        : Uplinks
  events         : EventList
  deriving DecidableEq, Repr

/-- Why the machine would stop with a fault. No constructor: no command of the table stops the EJ412, which reports
a refused command in its completion pair (R24) and a failure in its records and events. -/
inductive Fault where
  deriving DecidableEq, Repr

/-- Why a command has no meaning. -/
inductive Refusal where
  /-- Raised by an arm of exec that has no meaning yet (safe: the machine stops). No arm raises it. -/
  | notModelled (mnemonic : String)
  deriving DecidableEq, Repr

/-- The machine at a chassis reset, as R16, R33, R49, R68, R100, R127, R153, R172 and R180 give it: the chassis reset
line is asserted (log 3), every input line low (log 1), the straps 0 (log 2). -/
def State.reset : State where
  pending        := []
  chassisReset   := true
  processorReset := false
  straps         := ⟨0, 0, false, 0⟩
  path           := {}
  window         := {}
  link           := {}
  inventory      := {}
  slots          := Vector.replicate 12 {}
  budget         := {}
  thermal        := {}
  uplinks        := {}
  events         := {}

end Sys2Proof.Machine
end

