-- ==== Sys2Proof/Machine/Ops.lean ====
section
/-! DEFINITION. Shared operations: words and bytes, index lists, access to the records of the State, the shadow's
byte memory and the append to the Event List. -/

namespace Sys2Proof.Machine

/-! ## Words, bytes and numbers (section 3.1) -/

/-- The word with the given high and low byte lanes. -/
def wordOf (high low : Byte) : Word := high ++ low

/-- The low byte lane. -/
def lowByte (w : Word) : Byte := w.extractLsb' 0 8

/-- The high byte lane. -/
def highByte (w : Word) : Byte := w.extractLsb' 8 8

/-- A magnitude as a word. -/
def natWord (n : Nat) : Word := BitVec.ofNat 16 n

/-- A signed figure as a word. -/
def intWord (i : Int) : Word := BitVec.ofInt 16 i

/-- A byte from a number. -/
def natByte (n : Nat) : Byte := BitVec.ofNat 8 n

/-- The word whose high byte is the first number and whose low byte is the second. -/
def bytePair (high low : Nat) : Word := wordOf (natByte high) (natByte low)

/-- The value of one flag bit. -/
def flagAt (bit : Nat) (b : Bool) : Nat := if b then 2 ^ bit else 0

/-- A two-byte quantity, low byte first (03 section 3.2). -/
def wordAt (bytes : List Byte) (i : Nat) : Word := wordOf (bytes.getD (i + 1) 0) (bytes.getD i 0)

/-- A word as two bytes, low byte first. -/
def bytesOfWord (w : Word) : List Byte := [lowByte w, highByte w]

/-- R35: the sum of all bytes modulo 256. -/
def byteSum (bytes : List Byte) : Byte := bytes.foldl (· + ·) 0

/-- Integer division rounded up (section 3.1). -/
def ceilDiv (a b : Nat) : Nat := (a + b - 1) / b

/-- Clamp a magnitude to lo..hi (section 3.1). -/
def clampNat (lo hi n : Nat) : Nat := max lo (min hi n)

/-- Clamp a signed value to lo..hi (section 3.1). -/
def clampInt (lo hi n : Int) : Int := max lo (min hi n)

/-- Section 3.1: a reading is clamped into -80..250. -/
def clampTemperature (t : Int) : Int := clampInt (-80) 250 t

/-! ## Indexes (sections 3.2 to 3.4) -/

/-- The twelve slots in order. -/
def allSlots : List SlotId := [0, 1, 2, 3, 4, 5, 6, 7, 8, 9, 10, 11]

/-- The four bays, or uplinks, or banks, in order. -/
def allFour : List (Fin 4) := [0, 1, 2, 3]

/-- The three zones in order. -/
def allZones : List ZoneId := [0, 1, 2]

/-- The twenty endpoints in order. -/
def allEndpoints : List Endpoint := [0, 1, 2, 3, 4, 5, 6, 7, 8, 9, 10, 11, 12, 13, 14, 15, 16, 17, 18, 19]

/-- Section 3.3: the device an endpoint number names. -/
inductive Device where
  | switch
  | blade (slot : SlotId)
  | supply (bay : BayId)
  | fanModule (zone : ZoneId)
  deriving DecidableEq, Repr

/-- Section 3.3. -/
def deviceOf (e : Endpoint) : Device :=
  if e.val = 0 then .switch
  else if h : e.val - 1 < 12 then .blade ⟨e.val - 1, h⟩
  else if h : e.val - 13 < 4 then .supply ⟨e.val - 13, h⟩
  else .fanModule ⟨e.val - 17, by have := e.isLt; omega⟩

/-- Section 3.3: blade n is endpoint n. -/
def bladeEndpoint (n : SlotId) : Endpoint := ⟨n.val + 1, by have := n.isLt; omega⟩

/-- Section 3.3: the supply in bay i is endpoint 12 + i. -/
def supplyEndpoint (i : BayId) : Endpoint := ⟨i.val + 13, by have := i.isLt; omega⟩

/-- Section 3.3: the fan module of zone z is endpoint 16 + z. -/
def moduleEndpoint (z : ZoneId) : Endpoint := ⟨z.val + 17, by have := z.isLt; omega⟩

/-- Section 3.3: the event source of uplink u is 19 + u. -/
def uplinkSource (u : UplinkId) : Nat := 20 + u.val

/-- The manual's number of a slot, bay, zone or uplink. -/
def numberOf {n : Nat} (i : Fin n) : Nat := i.val + 1

/-- Section 3.2: the number of an uplink, 0 for none. -/
def uplinkNumber : Option UplinkId → Nat
  | none => 0
  | some u => numberOf u

/-- Section 3.4: slots 1-4 are cooled by zone 1, 5-8 by zone 2, 9-12 by zone 3. -/
def zoneOf (n : SlotId) : ZoneId := ⟨n.val / 4, by have := n.isLt; omega⟩

/-- The slots of a zone in order. -/
def slotsOf (z : ZoneId) : List SlotId := allSlots.filter (fun n => zoneOf n = z)

/-- Section 3.4: the first fan of a zone, fan 2z-1. -/
def firstFan (z : ZoneId) : FanId := ⟨2 * z.val, by have := z.isLt; omega⟩

/-- Section 3.4: the second fan of a zone, fan 2z. -/
def secondFan (z : ZoneId) : FanId := ⟨2 * z.val + 1, by have := z.isLt; omega⟩

/-- Section 3.4: the zone of a fan. -/
def zoneOfFan (f : FanId) : ZoneId := ⟨f.val / 2, by have := f.isLt; omega⟩

/-- R129: the reading record of a blade. -/
def bladeSource (n : SlotId) : SourceId := ⟨n.val, by have := n.isLt; omega⟩

/-- R129: the reading record of a zone's fan module. -/
def moduleSource (z : ZoneId) : SourceId := ⟨z.val + 12, by have := z.isLt; omega⟩

/-! ## Access to records -/

/-- The record of a slot. -/
def State.slot (s : State) (n : SlotId) : SlotRecord := s.slots[n]

/-- Change one slot record. -/
def State.updateSlot (s : State) (n : SlotId) (f : SlotRecord → SlotRecord) : State :=
  { s with slots := s.slots.set n (f s.slots[n]) }

/-- Change the Path Tracker's records. -/
def State.updatePath (s : State) (f : Path → Path) : State := { s with path := f s.path }

/-- The record of a bank. -/
def State.bank (s : State) (b : BankId) : Bank := s.path.banks[b]

/-- Replace one bank record. -/
def State.setBank (s : State) (b : BankId) (r : Bank) : State :=
  s.updatePath fun p => { p with banks := p.banks.set b r }

/-- Change the Window Decoder's records. -/
def State.updateWindow (s : State) (f : Window → Window) : State := { s with window := f s.window }

/-- Change the Link Engine's records. -/
def State.updateLink (s : State) (f : LinkEngine → LinkEngine) : State := { s with link := f s.link }

/-- The link record of an endpoint. -/
def State.linkRecord (s : State) (e : Endpoint) : LinkRecord := s.link.records[e]

/-- The link state of an endpoint. -/
def State.linkState (s : State) (e : Endpoint) : LinkState := (s.linkRecord e).state

/-- Change one link record. -/
def State.updateLinkRecord (s : State) (e : Endpoint) (f : LinkRecord → LinkRecord) : State :=
  s.updateLink fun l => { l with records := l.records.set e (f l.records[e]) }

/-- Change the Inventory Store's records. -/
def State.updateInventory (s : State) (f : Inventory → Inventory) : State := { s with inventory := f s.inventory }

/-- The inventory record of an endpoint. -/
def State.inventoryRecord (s : State) (e : Endpoint) : InventoryRecord := s.inventory.records[e]

/-- Change one inventory record. -/
def State.updateInventoryRecord (s : State) (e : Endpoint) (f : InventoryRecord → InventoryRecord) : State :=
  s.updateInventory fun i => { i with records := i.records.set e (f i.records[e]) }

/-- Change the Budget Unit's records. -/
def State.updateBudget (s : State) (f : Budget → Budget) : State := { s with budget := f s.budget }

/-- The supply record of a bay. -/
def State.supply (s : State) (i : BayId) : Supply := s.budget.supplies[i]

/-- Change one supply record. -/
def State.updateSupply (s : State) (i : BayId) (f : Supply → Supply) : State :=
  s.updateBudget fun b => { b with supplies := b.supplies.set i (f b.supplies[i]) }

/-- The budget record of a slot. -/
def State.budgetRecord (s : State) (n : SlotId) : BudgetRecord := s.budget.records[n]

/-- Change one budget record. -/
def State.updateBudgetRecord (s : State) (n : SlotId) (f : BudgetRecord → BudgetRecord) : State :=
  s.updateBudget fun b => { b with records := b.records.set n (f b.records[n]) }

/-- R115: an input of the evaluation has changed in this event. -/
def State.markEvaluation (s : State) : State := s.updateBudget fun b => { b with evaluationDue := true }

/-- Change the Thermal Unit's records. -/
def State.updateThermal (s : State) (f : Thermal → Thermal) : State := { s with thermal := f s.thermal }

/-- A zone record. -/
def State.zone (s : State) (z : ZoneId) : Zone := s.thermal.zones[z]

/-- Change one zone record. -/
def State.updateZone (s : State) (z : ZoneId) (f : Zone → Zone) : State :=
  s.updateThermal fun t => { t with zones := t.zones.set z (f t.zones[z]) }

/-- A fan record. -/
def State.fan (s : State) (i : FanId) : Fan := s.thermal.fans[i]

/-- Change one fan record. -/
def State.updateFan (s : State) (i : FanId) (f : Fan → Fan) : State :=
  s.updateThermal fun t => { t with fans := t.fans.set i (f t.fans[i]) }

/-- A reading record. -/
def State.reading (s : State) (r : SourceId) : Reading := s.thermal.readings[r]

/-- Change one reading record. -/
def State.updateReading (s : State) (r : SourceId) (f : Reading → Reading) : State :=
  s.updateThermal fun t => { t with readings := t.readings.set r (f t.readings[r]) }

/-- Change the Uplink Allocator's records. -/
def State.updateUplinks (s : State) (f : Uplinks → Uplinks) : State := { s with uplinks := f s.uplinks }

/-- An uplink record. -/
def State.port (s : State) (u : UplinkId) : Uplink := s.uplinks.ports[u]

/-- Change one uplink record. -/
def State.updatePort (s : State) (u : UplinkId) (f : Uplink → Uplink) : State :=
  s.updateUplinks fun k => { k with ports := k.ports.set u (f k.ports[u]) }

/-- A pin record. -/
def State.pin (s : State) (n : SlotId) : Pin := s.uplinks.pins[n]

/-- Change one pin record. -/
def State.updatePin (s : State) (n : SlotId) (f : Pin → Pin) : State :=
  s.updateUplinks fun k => { k with pins := k.pins.set n (f k.pins[n]) }

/-- Change the Event List's records. -/
def State.updateEvents (s : State) (f : EventList → EventList) : State := { s with events := f s.events }

/-! ## The shadow's byte memory (R17, R33): an unlisted byte reads 0 -/

/-- The byte at an address. -/
def Memory.read : List Host.Cell → Nat → Byte
  | [], _ => 0
  | (k, v) :: rest, a => if k = a then v else Memory.read rest a

/-- Write one byte, keeping the cells in rising order and listing no zero byte. -/
def Memory.write : List Host.Cell → Nat → Byte → List Host.Cell
  | [], a, b => if b = 0 then [] else [(a, b)]
  | (k, v) :: rest, a, b =>
    if a < k then (if b = 0 then (k, v) :: rest else (a, b) :: (k, v) :: rest)
    else if a = k then (if b = 0 then rest else (a, b) :: rest)
    else (k, v) :: Memory.write rest a b

/-- The canonical form: addresses strictly rising, no entry equal to what an unlisted address reads as. -/
def Memory.wf : List Host.Cell → Bool
  | [] => true
  | (k, v) :: rest => v != 0 && rest.all (fun c => k < c.1) && Memory.wf rest

/-- R17: the shadow word of a column, low lane at byte 2c. -/
def State.shadowWord (s : State) (column : Nat) : Word :=
  wordOf (Memory.read s.window.shadow (2 * column + 1)) (Memory.read s.window.shadow (2 * column))

/-- R17: write the driven lanes of one column. -/
def writeLanes (m : List Host.Cell) (column : Nat) (lanes : Lanes) : List Host.Cell :=
  let m := match lanes.low with
    | some b => Memory.write m (2 * column) b
    | none => m
  match lanes.high with
  | some b => Memory.write m (2 * column + 1) b
  | none => m

/-! ## The Event List (R174, R175) -/

/-- R174: the code of a kind. -/
def kindCode : EventKind → Nat
  | .link => 1
  | .inventory => 2
  | .power => 3
  | .fault => 4
  | .button => 5
  | .supply => 6
  | .fan => 7
  | .thermal => 8
  | .uplink => 9
  | .budget => 10
  | .path => 11
  | .collision => 12

/-- R176: the kind a code names. -/
def kindOfCode : Nat → Option EventKind
  | 1 => some .link
  | 2 => some .inventory
  | 3 => some .power
  | 4 => some .fault
  | 5 => some .button
  | 6 => some .supply
  | 7 => some .fan
  | 8 => some .thermal
  | 9 => some .uplink
  | 10 => some .budget
  | 11 => some .path
  | 12 => some .collision
  | _ => none

/-- R175: is this the entry of the given source and kind. -/
def EventEntry.matches (e : EventEntry) (source : Nat) (kind : EventKind) : Bool :=
  e.source == source && e.kind == kind

/-- R175: the entries after an append: the matching entry counts up, held at 255, and takes the new detail, or a new
entry is placed at the tail. -/
def appendEntry : List EventEntry → Nat → EventKind → Word → List EventEntry
  | [], source, kind, detail => [⟨source, kind, 1, detail⟩]
  | e :: rest, source, kind, detail =>
    if e.matches source kind then { e with count := min 255 (e.count + 1), detail := detail } :: rest
    else e :: appendEntry rest source kind detail

/-- R175: append an event. -/
def State.appendEvent (s : State) (source : Nat) (kind : EventKind) (detail : Word) : State :=
  s.updateEvents fun l => { l with entries := appendEntry l.entries source kind detail }

end Sys2Proof.Machine
end

