-- ==== Sys2Proof/Machine/Flags.lean ====
section
/-! DEFINITION. Figures, states and codes computed from the records: slot outputs, presence masks, supply states and
ratings, the budget figures, classes, port speeds, the attention line and the codes of section 2.8.5. -/

namespace Sys2Proof.Machine

/-! ## Codes of served rows (2.8.5) -/

def PathState.code : PathState → Nat
  | .uninit => 0
  | .primed => 1
  | .ready => 2
  | .modeFault => 3
  | .sleep => 4

def SlotState.code : SlotState → Nat
  | .empty => 0
  | .settling => 1
  | .auxOn => 2
  | .standby => 3
  | .queued => 4
  | .ramping => 5
  | .on => 6
  | .stopping => 7
  | .faulted => 8

def FaultReason.code : FaultReason → Nat
  | .noLink => 1
  | .ramp => 2
  | .powerLost => 3
  | .overcurrent => 4
  | .thermal => 5

def Origin.code : Origin → Nat
  | .processor => 0
  | .button => 1
  | .auto => 2
  | .blade => 3

def FanState.code : FanState → Nat
  | .absent => 0
  | .ok => 1
  | .failed => 2

def Redundancy.code : Redundancy → Nat
  | .none => 0
  | .nPlusOne => 1
  | .feedSplit => 2

def LinkState.code : LinkState → Nat
  | .absent => 0
  | .contact => 1
  | .up => 2
  | .lost => 3

def RecordState.code : RecordState → Nat
  | .absent => 0
  | .reading => 1
  | .valid => 2
  | .bad => 3

def PageState.code : PageState → Nat
  | .waiting => 1
  | .read => 2
  | .bad => 3

/-! ## Slots (R69) -/

/-- R69: the states in which main enable is on; the powered states of the Budget Unit (R110). -/
def SlotState.powered : SlotState → Bool
  | .ramping | .on | .stopping => true
  | _ => false

/-- R25: a slot is present unless its state is EMPTY or SETTLING; R69: aux enable is on exactly then. -/
def SlotState.seated : SlotState → Bool
  | .empty | .settling => false
  | _ => true

/-- R42: the states in which a blade is polled. -/
def SlotState.polled : SlotState → Bool
  | .standby | .queued | .ramping | .on | .stopping => true
  | _ => false

/-- R69: the aux enable output. -/
def State.auxEnable (s : State) (n : SlotId) : Bool := (s.slot n).state.seated

/-- R69: the main enable output. -/
def State.mainEnable (s : State) (n : SlotId) : Bool := (s.slot n).state.powered

/-- Is the slot in RAMPING, ON or STOPPING. -/
def State.powered (s : State) (n : SlotId) : Bool := (s.slot n).state.powered

/-- ON membership, as the Thermal Unit, the Uplink Allocator and the Budget Unit hold it (R70). -/
def State.isOn (s : State) (n : SlotId) : Bool := (s.slot n).state == .on

/-- R31: slot n in bit n - 1. -/
def presenceMask (p : SlotId → Bool) : Nat := (allSlots.map fun n => flagAt n.val (p n)).sum

/-- R31: the live debounced presence. -/
def State.livePresence (s : State) : BitVec 12 := BitVec.ofNat 12 (presenceMask fun n => (s.slot n).presence)

/-- R31: the changed mask. -/
def State.changedMask (s : State) : BitVec 12 := s.livePresence ^^^ s.window.latchedPresence

/-! ## The attention line (R177, R179) -/

/-- R174: a kind's mask bit is its code less one. -/
def kindEnabled (mask : BitVec 13) (kind : EventKind) : Bool := mask.getLsbD (kindCode kind - 1)

/-- R177: bit 12 enables PRESENCE. -/
def presenceEnabled (mask : BitVec 13) : Bool := mask.getLsbD 12

/-- R179: the attention line. -/
def State.attentionLine (s : State) : Bool :=
  s.events.entries.any (fun e => kindEnabled s.events.mask e.kind)
    || (s.changedMask != 0 && presenceEnabled s.events.mask)

/-! ## What the inventory supplies (R66) -/

/-- R66: a record supplies its fields while VALID and while READING with kept fields. -/
def State.suppliedFields (s : State) (e : Endpoint) : Option Identity :=
  match (s.inventoryRecord e).state with
  | .valid | .reading => (s.inventoryRecord e).fields
  | .absent | .bad => none

/-- R66: the class a blade's record supplies. -/
def State.suppliedClass (s : State) (n : SlotId) : Option PowerClass :=
  (s.suppliedFields (bladeEndpoint n)).map fun i => ⟨i.field1, i.field2⟩

/-- R66: the rating a supply's record supplies. -/
def State.suppliedRating (s : State) (i : BayId) : Option Nat :=
  (s.suppliedFields (supplyEndpoint i)).map fun f => f.field1

/-- R66: the highest speed in a set of abilities. -/
def highestSpeed (abilities : BitVec 3) : Option Nat :=
  if abilities.getLsbD 2 then some 25000
  else if abilities.getLsbD 1 then some 10000
  else if abilities.getLsbD 0 then some 1000
  else none

/-- R66: the effective port speed of a blade. -/
def State.effectivePortSpeed (s : State) (n : SlotId) : Nat :=
  match s.suppliedFields (bladeEndpoint n), s.suppliedFields 0 with
  | some blade, some switch => (highestSpeed (blade.abilities &&& switch.abilities)).getD defaultPortSpeed
  | _, _ => defaultPortSpeed

/-! ## Supplies and capacity (R102 to R106) -/

/-- Section 6.1: a supply's state. -/
inductive SupplyState where
  | absent | failed | ok
  deriving DecidableEq, Repr

/-- R102: the state follows the debounced levels. -/
def Supply.state (r : Supply) : SupplyState :=
  if r.present then (if r.ok then .ok else .failed) else .absent

def SupplyState.code : SupplyState → Nat
  | .absent => 0
  | .failed => 1
  | .ok => 2

/-- R104: the effective rating: the override, else the inventory's rating, else 0. -/
def State.effectiveRating (s : State) (i : BayId) : Nat :=
  match (s.supply i).override with
  | some w => w
  | none => (s.suppliedRating i).getD 0

/-- R104: the rating source, 0 none, 1 inventory, 2 override. -/
def State.ratingSource (s : State) (i : BayId) : Nat :=
  if (s.supply i).override.isSome then 2 else if (s.suppliedRating i).isSome then 1 else 0

/-- R106: the effective ratings of the OK supplies among the given bays. -/
def State.okRatings (s : State) (bays : List BayId) : List Nat :=
  (bays.filter fun i => (s.supply i).state == .ok).map s.effectiveRating

/-- R106: the capacity C. -/
def State.capacity (s : State) : Nat :=
  let all := s.okRatings allFour
  match s.budget.redundancy with
  | .none => all.sum
  | .nPlusOne => if all.length < 2 then 0 else all.sum - all.foldl max 0
  | .feedSplit => min (s.okRatings [0, 1]).sum (s.okRatings [2, 3]).sum

/-! ## Commitment and headroom (R108) -/

/-- R108: a blade's projected value. -/
def BudgetRecord.projected (r : BudgetRecord) : Nat := r.capTarget.getD r.allocation

/-- R108: the sum of the zone fan allocations. -/
def State.fanTotal (s : State) : Nat := (allZones.map fun z => s.budget.fanAllocations[z]).sum

/-- The blades in RAMPING, ON and STOPPING. -/
def State.poweredSlots (s : State) : List SlotId := allSlots.filter s.powered

/-- R108: K. -/
def State.commitment (s : State) : Nat :=
  s.budget.baseLoad + s.fanTotal + (s.poweredSlots.map fun n => (s.budgetRecord n).allocation).sum

/-- R108: K'. -/
def State.projectedCommitment (s : State) : Nat :=
  s.budget.baseLoad + s.fanTotal + (s.poweredSlots.map fun n => (s.budgetRecord n).projected).sum

/-- R108: H. -/
def State.headroom (s : State) : Int := (s.capacity : Int) - s.commitment

/-- R108: H'. -/
def State.projectedHeadroom (s : State) : Int := (s.capacity : Int) - s.projectedCommitment

/-- R121: is a decrease pending on any blade. -/
def State.decreasePending (s : State) : Bool := allSlots.any fun n => (s.budgetRecord n).capTarget.isSome

/-- R110: the class a slot would be admitted with: the override, else the record's class, else none. -/
def State.candidateClass (s : State) (n : SlotId) : Option PowerClass :=
  match (s.budgetRecord n).override with
  | some c => some c
  | none => s.suppliedClass n

/-- R110: the class in effect: fixed for a powered blade, else the candidate class. -/
def State.classInEffect (s : State) (n : SlotId) : Option PowerClass :=
  if s.powered n then some (s.budgetRecord n).fixedClass else s.candidateClass n

/-- R79, R111: C minus the base load minus the zone fan allocations. -/
def State.remainder (s : State) : Int := (s.capacity : Int) - s.budget.baseLoad - s.fanTotal

/-- R111: a slot's place in the admission queue counted from 1, and its entry. -/
def queuePlace : List QueueEntry → SlotId → Nat → Option (Nat × QueueEntry)
  | [], _, _ => none
  | q :: rest, n, k => if q.slot = n then some (k, q) else queuePlace rest n (k + 1)

/-! ## Uplinks (R167) -/

/-- R167: the blades active on an uplink. -/
def State.members (s : State) (u : UplinkId) : List SlotId := allSlots.filter fun n => (s.pin n).active == some u

/-- R167: W_u. -/
def State.weightSum (s : State) (u : UplinkId) : Nat := ((s.members u).map fun n => (s.pin n).weight).sum

/-- R157: the capacity a speed code names. -/
def speedCapacity (code : Fin 4) : Nat :=
  match code.val with
  | 0 => 1000
  | 1 => 10000
  | 2 => 25000
  | _ => 50000

end Sys2Proof.Machine
end

