-- ==== Sys2Proof/Machine/LinkOps.lean ====
section
/-! DEFINITION. The Link Engine (03): frames, requests, the arbiter, presence, polling and the judgement of an answer. -/

namespace Sys2Proof.Machine

/-! ## Kinds and frames (R35, R37) -/

/-- R37: the kind code. -/
def TransactionKind.code : TransactionKind → Byte
  | .ident => 0x01
  | .page => 0x02
  | .poll => 0x03
  | .cap => 0x10
  | .halt => 0x11
  | .pins => 0x12

/-- R37: HALT, CAP and PINS are urgent. -/
def TransactionKind.urgent : TransactionKind → Bool
  | .halt | .cap | .pins => true
  | .ident | .page | .poll => false

/-- R44: the order of kinds within an endpoint. -/
def kindOrder : List TransactionKind := [.halt, .cap, .pins, .ident, .page, .poll]

/-- R37: the expected data length of an answer. -/
def answerLength (kind : TransactionKind) (e : Endpoint) : Nat :=
  match kind with
  | .ident => 64
  | .page => 128
  | .cap => 2
  | .halt => 0
  | .pins => 1
  | .poll =>
    match deviceOf e with
    | .blade _ => 3
    | .fanModule _ => 2
    | .switch => 1
    | .supply _ => 0

/-- R45: the pin table as the pin records stand: uplink 0..4 and target rate in blade order. -/
def State.pinTable (s : State) : List (Nat × Nat) :=
  allSlots.map fun n => (uplinkNumber (s.pin n).active, (s.pin n).rate)

/-- R37: the argument bytes of a request. -/
def argumentBytes (kind : TransactionKind) (argument : Nat) (table : List (Nat × Nat)) : List Byte :=
  match kind with
  | .page => [natByte argument]
  | .cap => bytesOfWord (natWord argument)
  | .pins => table.flatMap fun entry => natByte entry.1 :: bytesOfWord (natWord entry.2)
  | .ident | .poll | .halt => []

/-- R35: address, kind, argument length, arguments, and the check byte that makes the sum 0 modulo 256. -/
def requestFrame (e : Endpoint) (kind : TransactionKind) (arguments : List Byte) : List Byte :=
  let body := natByte e.val :: kind.code :: natByte arguments.length :: arguments
  body ++ [0 - byteSum body]

/-! ## The arbiter (R44, R45) -/

/-- R44: the endpoints in the order p, p+1, ..., 19, 0, ..., p-1. -/
def rotation (p : Endpoint) : List Endpoint := allEndpoints.drop p.val ++ allEndpoints.take p.val

/-- The pending entry of an endpoint and kind. -/
def findRequest (table : List Request) (e : Endpoint) (k : TransactionKind) : Option Request :=
  table.find? fun r => r.endpoint = e && r.kind = k

/-- R44: the entry the arbiter chooses. -/
def arbiterChoice (table : List Request) (p : Endpoint) : Option Request :=
  let urgent := table.any fun r => r.kind.urgent
  (rotation p).findSome? fun e =>
    kindOrder.findSome? fun k => if k.urgent = urgent then findRequest table e k else none

/-- R44: the pointer after a choice. -/
def pointerAfter (e : Endpoint) : Endpoint := if h : e.val + 1 < 20 then ⟨e.val + 1, h⟩ else 0

/-- Is the endpoint a blade's whose slot is in STANDBY (log 41). -/
def State.standsBy (s : State) (e : Endpoint) : Bool :=
  match deviceOf e with
  | .blade n => (s.slot n).state == .standby
  | .switch | .supply _ | .fanModule _ => false

/-- R45: the chosen entry becomes the transaction in flight with its arguments fixed; its timer starts at the end of
the request (REQUEST_FRAME_SENT). -/
def State.send (s : State) (r : Request) : State :=
  let table := if r.kind = .pins then s.pinTable else []
  let transaction : Transaction :=
    { endpoint := r.endpoint, kind := r.kind, argument := r.argument, table := table, requester := r.requester,
      presenceCount := (s.linkRecord r.endpoint).presenceCount,
      frame := requestFrame r.endpoint r.kind (argumentBytes r.kind r.argument table), timer := none,
      fromStandby := s.standsBy r.endpoint }
  s.updateLink fun l =>
    { l with
      table := l.table.filter fun q => !(q.endpoint = r.endpoint && q.kind = r.kind)
      inFlight := some transaction
      pointer := pointerAfter r.endpoint }

/-- R44: the arbiter runs when the engine is free and the table is not empty; not while the chassis reset line is
asserted (log 4). -/
def State.arbitrate (s : State) : State :=
  if s.chassisReset || s.link.inFlight.isSome then s
  else
    match arbiterChoice s.link.table s.link.pointer with
    | some r => s.send r
    | none => s

/-! ## Requests (R38, R41, R43) -/

/-- R43: the request takes the place of an entry of its endpoint and kind, or makes a new one. -/
def enterRequest : List Request → Request → List Request
  | [], r => [r]
  | q :: rest, r => if q.endpoint = r.endpoint && q.kind = r.kind then r :: rest else q :: enterRequest rest r

/-- R41: a request of any kind other than IDENT is not entered while the endpoint is LOST. -/
def State.refusesRequest (s : State) (e : Endpoint) (k : TransactionKind) : Bool :=
  s.linkState e == .lost && k != .ident

/-- R43: a request enters the pending table, unless its endpoint is ABSENT (R38) or LOST (R41); the arbiter then
runs if the engine is free (R44). A requester that acts on NOT_SENT tests `refusesRequest` itself. -/
def State.request (s : State) (r : Request) : State :=
  if s.linkState r.endpoint == .absent || s.refusesRequest r.endpoint r.kind then s
  else (s.updateLink fun l => { l with table := enterRequest l.table r }).arbitrate

/-- Is an entry of this endpoint and kind pending. -/
def State.requestPending (s : State) (e : Endpoint) (k : TransactionKind) : Bool :=
  (findRequest s.link.table e k).isSome

/-- A request without arguments. -/
def State.requestKind (s : State) (e : Endpoint) (k : TransactionKind) (who : Requester) : State :=
  s.request ⟨e, k, 0, who⟩

/-- R40, R41, R42: a request on the Link Engine's own behalf, if none of the kind is pending. -/
def State.requestIfNone (s : State) (e : Endpoint) (k : TransactionKind) : State :=
  if s.requestPending e k then s else s.requestKind e k .linkEngine

/-! ## Presence and polling (R38, R42) -/

/-- R38: an endpoint becomes present. -/
def State.linkPresent (s : State) (e : Endpoint) : State :=
  s.updateLinkRecord e fun r => { r with state := .contact, failures := 0, pollTimer := none, reconnectTimer := none }

/-- R38: an endpoint becomes absent. -/
def State.linkAbsent (s : State) (e : Endpoint) : State :=
  if s.linkState e == .absent then s
  else
    (s.updateLinkRecord e fun r =>
      { r with state := .absent, failures := 0, pollTimer := none, reconnectTimer := none,
               presenceCount := r.presenceCount + 1 }).updateLink fun l =>
      { l with table := l.table.filter fun q => q.endpoint ≠ e }

/-- R42: is the endpoint polled. -/
def State.pollEligible (s : State) (e : Endpoint) : Bool :=
  s.linkState e == .up &&
    match deviceOf e with
    | .switch => true
    | .blade n => (s.slot n).state.polled
    | .fanModule _ => true
    | .supply _ => false

/-- R42: the poll period. -/
def pollPeriodOf (e : Endpoint) : Nat :=
  match deviceOf e with
  | .switch => switchPollPeriod
  | _ => pollPeriod

/-- R42: after a change of the link or slot state: an endpoint that has become eligible starts its next-poll timer,
one that has ceased to be cancels it and drops its pending POLL. -/
def State.syncPoll (s : State) (e : Endpoint) : State :=
  if s.pollEligible e then
    if (s.linkRecord e).pollTimer.isSome then s
    else s.updateLinkRecord e fun r => { r with pollTimer := some (pollPeriodOf e) }
  else
    (s.updateLinkRecord e fun r => { r with pollTimer := none }).updateLink fun l =>
      { l with table := l.table.filter fun q => !(q.endpoint = e && q.kind = .poll) }

/-! ## Judgement (R36) -/

/-- R36: the answer's tests in order; a frame without room for its status and check bytes fails LENGTH (log 18). -/
def judgeAnswer (kind : TransactionKind) (e : Endpoint) (bytes : List Byte) : TransactionResult :=
  let data := (bytes.drop 1).dropLast
  if byteSum bytes ≠ 0 then .failed .check
  else if bytes.getD 0 0 ≠ 0 then .failed .refused
  else if bytes.length ≠ answerLength kind e + 2 then .failed .length
  else if kind = .pins && data.getD 0 0 ≠ 12 then .failed .refused
  else .success data

/-- R47: does the presence count of a transaction still match. -/
def State.presenceMatches (s : State) (t : Transaction) : Bool :=
  (s.linkRecord t.endpoint).presenceCount == t.presenceCount

end Sys2Proof.Machine
end

