-- ==== Sys2Proof/Machine/UplinkOps.lean ====
section
/-! DEFINITION. The Uplink Allocator (08): selection, rates, programming of the switch and reports. -/

namespace Sys2Proof.Machine

/-! ## Selection (R161) -/

/-- R161: of the UP uplinks other than p in p's group the one with the largest capacity, the lowest number among equals. -/
def State.standIn (s : State) (p : UplinkId) : Option UplinkId :=
  (allFour.filter fun u => u ≠ p && (s.port u).up && (s.port u).group = (s.port p).group).foldl
    (fun best u =>
      match best with
      | none => some u
      | some b => if (s.port b).capacity < (s.port u).capacity then some u else some b)
    none

/-- R161: the active uplink of an ON blade and its failback timer after the selection. -/
def State.selectUplink (s : State) (n : SlotId) : Option UplinkId × Timer :=
  let r := s.pin n
  match r.preferred with
  | none => (none, r.failbackTimer)
  | some p =>
    if r.failbackTimer.isNone && (s.port p).up then (some p, none)
    else
      match s.standIn p with
      | some u => (some u, r.failbackTimer)
      | none => if r.failbackTimer.isSome then (some p, none) else (none, none)

/-- R159, R161: the selection for one blade; a blade not ON has active uplink 0 and no failback timer. -/
def State.reselectBlade (s : State) (n : SlotId) : State :=
  if s.isOn n then
    s.updatePin n fun r => { r with active := (s.selectUplink n).1, failbackTimer := (s.selectUplink n).2 }
  else s.updatePin n fun r => { r with active := none, failbackTimer := none }

/-- R159, step 2: the selection of every blade. -/
def State.reselect (s : State) : State := allSlots.foldl State.reselectBlade s

/-! ## Rates (R167) -/

/-- R167: min(port_b, floor(C_u w_b / W_u)); 0 for a blade active on no uplink. -/
def State.targetRate (s : State) (n : SlotId) : Nat :=
  match (s.pin n).active with
  | none => 0
  | some u => min (s.pin n).portSpeed ((s.port u).capacity * (s.pin n).weight / s.weightSum u)

/-- R159, step 3: the target rates of every blade. -/
def State.recomputeRates (s : State) : State :=
  allSlots.foldl (fun t n => t.updatePin n fun r => { r with rate := s.targetRate n }) s

/-! ## Programming (R168) -/

/-- R168: PINS is requested from the Link Engine (nothing while the switch link is LOST). -/
def State.requestPins (s : State) : State := s.requestKind 0 .pins .uplinkAllocator

/-- R159, step 4: PINS if any active uplink or target rate differs from what it was before the event. -/
def State.programIfChanged (before after : State) : State :=
  if before.pinTable = after.pinTable then after else after.requestPins

/-- R159: selection, rates and programming. -/
def State.rework (s : State) : State := State.programIfChanged s s.reselect.recomputeRates

/-- R157, R166: rates and programming without a selection. -/
def State.rerate (s : State) : State := State.programIfChanged s s.recomputeRates

/-- R169, R170: every blade becomes unconfirmed. -/
def State.unconfirmPins (s : State) : State :=
  allSlots.foldl (fun t n => t.updatePin n fun r => { r with confirmed := none }) s

/-- R169: the confirmed fields take the table sent. -/
def State.confirmPins (s : State) (table : List (Nat × Nat)) : State :=
  allSlots.foldl (fun t n => t.updatePin n fun r => { r with confirmed := table[n.val]? }) s

/-- R169: a failed PINS makes every blade unconfirmed and is requested again at once. -/
def State.pinsFailed (s : State) : State := s.unconfirmPins.requestPins

/-! ## Port speeds (R66, R166) -/

/-- R166: a notice of a changed port speed: the figure is stored and the blade's uplink is rated again. -/
def State.storePortSpeed (s : State) (n : SlotId) : State :=
  let speed := s.effectivePortSpeed n
  if (s.pin n).portSpeed = speed then s
  else
    let t := s.updatePin n fun r => { r with portSpeed := speed }
    if (s.pin n).active.isSome then t.rerate else t

/-- R66: a notice for each blade whose effective port speed has changed. -/
def State.noticePortSpeeds (s : State) : State := allSlots.foldl State.storePortSpeed s

/-! ## Declared states (R155 to R157, R163, R164, R171) -/

/-- R171: the causes. -/
inductive UplinkCause where
  | linkHeld | farEndFault | speedChanged
  deriving DecidableEq, Repr

def UplinkCause.code : UplinkCause → Nat
  | .linkHeld => 1
  | .farEndFault => 2
  | .speedChanged => 3

/-- R171: append UPLINK with the declared state after the event. -/
def State.reportUplink (s : State) (u : UplinkId) (cause : UplinkCause) : State :=
  s.appendEvent (uplinkSource u) .uplink (bytePair cause.code (if (s.port u).up then 1 else 0))

/-- R158, R164: cancel the failback timer of every blade whose preferred uplink is u. -/
def State.cancelFailbacks (s : State) (u : UplinkId) : State :=
  allSlots.foldl
    (fun t n => if (t.pin n).preferred = some u then t.updatePin n fun r => { r with failbackTimer := none } else t) s

/-- R163: is the blade on a stand-in for u. -/
def State.onStandIn (s : State) (u : UplinkId) (n : SlotId) : Bool :=
  s.isOn n && (s.pin n).preferred = some u && (s.pin n).active ≠ none && (s.pin n).active ≠ some u

/-- R163: start the failback timer of every ON blade on a stand-in for u, if the hold is greater than 0. -/
def State.startFailbacks (s : State) (u : UplinkId) : State :=
  if s.uplinks.failbackHold = 0 then s
  else
    allSlots.foldl
      (fun t n =>
        if t.onStandIn u n then
          t.updatePin n fun r => { r with failbackTimer := some (seconds t.uplinks.failbackHold) }
        else t) s

/-- R155: the up hold-off runs exactly while the uplink is DOWN with the link line high and the fault line low. -/
def State.syncUpTimer (s : State) (u : UplinkId) : State :=
  let r := s.port u
  if !r.up && r.link && !r.fault then
    if r.upTimer.isSome then s else s.updatePort u fun r => { r with upTimer := some upHoldOff }
  else s.updatePort u fun r => { r with upTimer := none }

/-- R155, R159: the uplink is declared UP with the capacity of its speed code. -/
def State.declareUp (s : State) (u : UplinkId) : State :=
  let up := s.updatePort u fun r =>
    { r with up := true, capacity := speedCapacity r.speed, upTimer := none, downTimer := none }
  ((up.startFailbacks u).rework).reportUplink u .linkHeld

/-- R156, R159, R164: the uplink is declared DOWN. -/
def State.declareDown (s : State) (u : UplinkId) (cause : UplinkCause) : State :=
  let down := s.updatePort u fun r => { r with up := false, capacity := 0, upTimer := none, downTimer := none }
  (((down.cancelFailbacks u).rework).reportUplink u cause).syncUpTimer u

end Sys2Proof.Machine
end

