-- ==== Sys2Proof/Machine/BudgetRecords.lean ====
section
/-! DEFINITION. The Budget Unit's records as notices change them (06): queue, admitted list, releases, thermal flags,
fan allocations. No function here evaluates; each marks that an evaluation is due (R115). -/

namespace Sys2Proof.Machine

/-! ## The admission queue (R111, R112) -/

/-- R111, R112: a queue entry stands before another if its priority is lower, or its arrival earlier within one. -/
def queuedBefore (priority : SlotId → Nat) (a b : QueueEntry) : Bool :=
  priority a.slot < priority b.slot || (priority a.slot = priority b.slot && a.arrival < b.arrival)

/-- R111, R112: put an entry at its place. -/
def insertEntry (priority : SlotId → Nat) (e : QueueEntry) : List QueueEntry → List QueueEntry
  | [] => [e]
  | q :: rest => if queuedBefore priority e q then e :: q :: rest else q :: insertEntry priority e rest

/-- A slot's priority. -/
def State.priorityOf (s : State) (n : SlotId) : Nat := (s.budgetRecord n).priority

/-- R111: the slot joins the admission queue. -/
def State.joinQueue (s : State) (n : SlotId) (origin : Origin) : State :=
  (s.updateBudget fun b =>
    { b with queue := insertEntry s.priorityOf ⟨n, origin, b.arrivals⟩ b.queue,
             arrivals := b.arrivals + 1 }).markEvaluation

/-- R111: the slot leaves the admission queue; the entries behind it close up. -/
def State.dropFromQueue (s : State) (n : SlotId) : State :=
  s.updateBudget fun b => { b with queue := b.queue.filter fun q => q.slot ≠ n }

/-- R111: the withdrawal notice. -/
def State.withdrawFromQueue (s : State) (n : SlotId) : State := (s.dropFromQueue n).markEvaluation

/-- R112: a queued entry moves to the place its priority and its original arrival give. -/
def State.replaceInQueue (s : State) (n : SlotId) : State :=
  match s.budget.queue.find? fun q => q.slot = n with
  | none => s
  | some e =>
    s.updateBudget fun b => { b with queue := insertEntry s.priorityOf e (b.queue.filter fun q => q.slot ≠ n) }

/-! ## Powered blades (R114, R118, R124) -/

/-- R118, R124: release the allocation and every cap field, and leave the admitted list. -/
def State.releaseBudget (s : State) (n : SlotId) : State :=
  (s.updateBudgetRecord n fun r =>
    { r with allocation := 0, fixedClass := ⟨0, 0⟩, capTarget := none, confirmedCap := 0, pendingClassMax := none,
             capTimer := none }).updateBudget fun b =>
    { b with admitted := b.admitted.filter fun m => m ≠ n }

/-- R124: the left-powered-state notice; it changes nothing if the Budget Unit itself has shed the blade. -/
def State.leftPowered (s : State) (n : SlotId) : State :=
  if n ∈ s.budget.admitted then (s.releaseBudget n).markEvaluation else s

/-- R124: at ON to STOPPING a pending decrease is withdrawn. -/
def State.withdrawDecrease (s : State) (n : SlotId) : State :=
  (s.updateBudgetRecord n fun r =>
    if r.capTarget.isSome then { r with capTarget := none, capTimer := none, pendingClassMax := none }
    else r).markEvaluation

/-- R148, R149: set or clear a blade's thermal flag and report a change. -/
def State.setThermalFlag (s : State) (n : SlotId) (flag : Bool) : State :=
  if (s.budgetRecord n).thermalFlag = flag then s
  else (s.updateBudgetRecord n fun r => { r with thermalFlag := flag }).markEvaluation

/-- R108, R141: a zone's fan allocation is reported. -/
def State.reportAllocation (s : State) (z : ZoneId) (watts : Nat) : State :=
  if s.budget.fanAllocations[z] = watts then s
  else (s.updateBudget fun b => { b with fanAllocations := b.fanAllocations.set z watts }).markEvaluation

/-! ## BUDGET entries (R126) -/

/-- R126: the occasions. -/
inductive BudgetOccasion where
  | overcommit
  | recovered
  | shedDeficit (slot : SlotId)
  | shedCap (slot : SlotId)
  deriving DecidableEq, Repr

/-- R126: the detail word. -/
def BudgetOccasion.detail : BudgetOccasion → Word
  | .overcommit => bytePair 0 1
  | .recovered => bytePair 0 2
  | .shedDeficit n => bytePair (numberOf n) 3
  | .shedCap n => bytePair (numberOf n) 4

/-- R126: append BUDGET with source 24. -/
def State.appendBudget (s : State) (o : BudgetOccasion) : State := s.appendEvent 24 .budget o.detail

end Sys2Proof.Machine
end

