-- ==== Sys2Proof/Machine/InventoryOps.lean ====
section
/-! DEFINITION. The Inventory Store (04): identity pages, identification, rereading, the page pool and fetches. -/

namespace Sys2Proof.Machine

/-! ## The identity page (R51) -/

/-- R51: the outcome of judging an identity page. -/
inductive PageJudgement where
  | accepted (fields : Identity)
  | check
  | kind
  | field
  deriving DecidableEq, Repr

/-- Section 4.1: the kind code a device must report. -/
def Device.kindCode : Device → Nat
  | .blade _ => 1
  | .supply _ => 2
  | .fanModule _ => 3
  | .switch => 4

/-- Section 4.1: does the device kind examine kind field 1, kind field 2, the ability set, and allow extended pages. -/
def Device.examinesField1 : Device → Bool
  | .switch => false
  | _ => true

def Device.examinesField2 : Device → Bool
  | .blade _ | .fanModule _ => true
  | .supply _ | .switch => false

def Device.examinesAbilities : Device → Bool
  | .blade _ | .switch => true
  | .supply _ | .fanModule _ => false

/-- Section 4.1: the fields of a page, bytes the table marks as not examined left out. -/
def identityOf (d : Device) (page : List Byte) : Identity :=
  let length := (page.getD 4 0).toNat
  { kind := page.getD 0 0
    model := wordAt page 1
    revision := page.getD 3 0
    serial := (page.drop 5).take length
    pageCount := (page.getD 21 0).toNat
    field1 := if d.examinesField1 then (wordAt page 22).toNat else 0
    field2 := if d.examinesField2 then (wordAt page 24).toNat else 0
    abilities := if d.examinesAbilities then (page.getD 26 0).extractLsb' 0 3 else 0 }

/-- R51, test 3: every examined field lies within its values in the identity page table. -/
def fieldsInRange (d : Device) (page : List Byte) : Bool :=
  let i := identityOf d page
  let abilityByte := (page.getD 26 0).toNat
  (page.getD 4 0).toNat ≤ 16
    && i.serial.all (fun c => 0x20 ≤ c.toNat && c.toNat ≤ 0x7E)
    && match d with
      | .blade _ =>
        i.pageCount ≤ 7 && 50 ≤ i.field1 && i.field1 ≤ 1500 && 20 ≤ i.field2 && i.field2 ≤ i.field1
          && 1 ≤ abilityByte && abilityByte < 8
      | .supply _ => i.pageCount = 0 && 200 ≤ i.field1 && i.field1 ≤ 3000
      | .fanModule _ => i.pageCount = 0 && 5 ≤ i.field1 && i.field1 ≤ 200 && 500 ≤ i.field2 && i.field2 ≤ 20000
      | .switch => i.pageCount ≤ 7 && abilityByte < 8

/-- R51: the three tests in order. -/
def judgePage (d : Device) (page : List Byte) : PageJudgement :=
  if byteSum page ≠ 0 then .check
  else if (page.getD 0 0).toNat ≠ d.kindCode then .kind
  else if fieldsInRange d page then .accepted (identityOf d page)
  else .field

/-! ## Records and notices (R66) -/

/-- R66: replace an endpoint's record and give the notices its change calls for: a class or a rating to the Budget
Unit, the changed port speeds to the Uplink Allocator. The Thermal Unit takes its figures at its updates (R147). -/
def State.setInventoryRecord (s : State) (e : Endpoint) (r : InventoryRecord) : State :=
  let t := s.updateInventoryRecord e fun _ => r
  let changed := match deviceOf e with
    | .blade n => decide (t.suppliedClass n ≠ s.suppliedClass n)
    | .supply i => decide (t.suppliedRating i ≠ s.suppliedRating i)
    | .switch | .fanModule _ => false
  (if changed then t.markEvaluation else t).noticePortSpeeds

/-- R59: the endpoint's frames join the tail of the free list in page order and its page list empties. -/
def State.freePages (s : State) (e : Endpoint) : State :=
  (s.updateInventory fun i => { i with free := i.free ++ (s.inventoryRecord e).pages.map (·.frame) }).updateInventoryRecord e
    fun r => { r with pages := [] }

/-- R53, R63: a fetch in progress ends without an event. -/
def State.endFetch (s : State) (e : Endpoint) : State := s.updateInventoryRecord e fun r => { r with fetch := none }

/-- R67: the occasions of INVENTORY. -/
inductive InventoryOccasion where
  | identified
  | rejected (reason : Nat)
  | changed (freed : Nat)
  | fetchDone (bad : Nat)
  | fetchAborted (waiting : Nat)
  deriving DecidableEq, Repr

/-- R67: the detail word. -/
def InventoryOccasion.detail : InventoryOccasion → Word
  | .identified => bytePair 0 1
  | .rejected reason => bytePair reason 2
  | .changed freed => bytePair freed 3
  | .fetchDone bad => bytePair bad 4
  | .fetchAborted waiting => bytePair waiting 5

/-- R67: append INVENTORY with the endpoint as source. -/
def State.appendInventory (s : State) (e : Endpoint) (o : InventoryOccasion) : State :=
  s.appendEvent e.val .inventory o.detail

/-- The Inventory Store requests IDENT for an endpoint. -/
def State.requestIdent (s : State) (e : Endpoint) : State := s.requestKind e .ident .inventoryStore

/-! ## Presence (R52, R53) -/

/-- R52: the record enters READING with no fields. -/
def State.openRecord (s : State) (e : Endpoint) : State :=
  s.setInventoryRecord e { s.inventoryRecord e with state := .reading, fields := none, retryMark := false }

/-- R53: the record becomes ABSENT, its fields and retry mark discarded. -/
def State.closeRecord (s : State) (e : Endpoint) : State :=
  s.setInventoryRecord e { s.inventoryRecord e with state := .absent, fields := none, retryMark := false }

/-- R52: a supply or a fan module becomes present. -/
def State.devicePresent (s : State) (e : Endpoint) : State := ((s.linkPresent e).openRecord e).requestIdent e

/-- R53: a supply or a fan module becomes absent. -/
def State.deviceAbsent (s : State) (e : Endpoint) : State := (s.linkAbsent e).closeRecord e

/-- R53: a blade's raw presence falls: its pages are freed and a fetch ends without an event. -/
def State.bladeUnseated (s : State) (e : Endpoint) : State := (s.linkAbsent e |>.freePages e).endFetch e

/-! ## Identification (R54 to R58) -/

/-- R56: an identification ends BAD: no fields, no pages, no fetch. -/
def State.rejectIdentity (s : State) (e : Endpoint) (reason : Nat) : State :=
  let freed := (s.freePages e).endFetch e
  (freed.setInventoryRecord e { freed.inventoryRecord e with state := .bad, fields := none, retryMark := false }).appendInventory
    e (.rejected reason)

/-- R58: do two identities have the same model code, serial length and serial characters. -/
def Identity.sameAs (a b : Identity) : Bool := a.model = b.model && a.serial = b.serial

/-- R56, R58: an identification ends VALID; kept fields decide whether the pages are freed and what is reported. -/
def State.acceptIdentity (s : State) (e : Endpoint) (i : Identity) : State :=
  let r := s.inventoryRecord e
  let same := match r.fields with
    | none => true
    | some kept => kept.sameAs i
  let keep := match r.fields with
    | none => true
    | some kept => kept.sameAs i && kept.pageCount = i.pageCount
  let t := if keep then s else s.freePages e
  (t.setInventoryRecord e { t.inventoryRecord e with state := .valid, fields := some i, retryMark := false }).appendInventory
    e (if same then .identified else .changed r.pages.length)

/-- R54: an identity page reaches the Inventory Store. -/
def State.identityPage (s : State) (e : Endpoint) (page : List Byte) : State :=
  if (s.inventoryRecord e).state = .reading then
    match judgePage (deviceOf e) page with
    | .accepted i => s.acceptIdentity e i
    | .check =>
      if (s.inventoryRecord e).retryMark then s.rejectIdentity e 1
      else (s.updateInventoryRecord e fun r => { r with retryMark := true }).requestIdent e
    | .kind => s.rejectIdentity e 2
    | .field => s.rejectIdentity e 3
  else s

/-- R55: after an IDENT failure that leaves the link UP an identification in progress requests IDENT again. -/
def State.identFailed (s : State) (e : Endpoint) : State :=
  if (s.inventoryRecord e).state = .reading && s.linkState e == .up then s.requestIdent e else s

/-! ## Fetches (R60 to R62) -/

/-- The Inventory Store requests PAGE k. -/
def State.requestPage (s : State) (e : Endpoint) (k : Nat) : State := s.request ⟨e, .page, k, .inventoryStore⟩

/-- R60: n frames from the head of the free list become pages 1..n, and PAGE 1 is requested. -/
def State.startFetch (s : State) (e : Endpoint) (n : Nat) : State :=
  let pages : List Page := (s.inventory.free.take n).map fun f => { frame := f }
  ((s.updateInventory fun i => { i with free := i.free.drop n }).updateInventoryRecord e fun r =>
    { r with pages := pages, fetch := some 1 }).requestPage e 1

/-- Change page k (1..7) of an endpoint. -/
def State.updatePage (s : State) (e : Endpoint) (k : Nat) (f : Page → Page) : State :=
  s.updateInventoryRecord e fun r => { r with pages := r.pages.modify (k - 1) f }

/-- R61: page k is READ or BAD: the fetch moves on to page k+1 or ends. -/
def State.moveFetch (s : State) (e : Endpoint) (k : Nat) : State :=
  if k < (s.inventoryRecord e).pages.length then
    (s.updateInventoryRecord e fun r => { r with fetch := some (k + 1) }).requestPage e (k + 1)
  else
    (s.endFetch e).appendInventory e
      (.fetchDone ((s.inventoryRecord e).pages.filter fun p => p.state = .bad).length)

/-- R61: a failed page check or a link failure: page k is repeated once, then BAD. -/
def State.pageFailed (s : State) (e : Endpoint) (k : Nat) : State :=
  match (s.inventoryRecord e).pages[k - 1]? with
  | none => s
  | some p =>
    if p.repeatMark then (s.updatePage e k fun p => { p with state := .bad }).moveFetch e k
    else (s.updatePage e k fun p => { p with repeatMark := true }).requestPage e k

/-- R61: a PAGE outcome for the page awaited; any other is ignored. -/
def State.pageOutcome (s : State) (e : Endpoint) (k : Nat) (result : TransactionResult) : State :=
  if (s.inventoryRecord e).fetch = some k then
    match result with
    | .success data =>
      if byteSum data = 0 then (s.updatePage e k fun p => { p with state := .read, data := data }).moveFetch e k
      else s.pageFailed e k
    | .failed _ => s.pageFailed e k
  else s

/-- R62: the link of an endpoint with a fetch in progress enters LOST. -/
def State.abortFetch (s : State) (e : Endpoint) : State :=
  match (s.inventoryRecord e).fetch with
  | none => s
  | some _ =>
    (s.endFetch e).appendInventory e
      (.fetchAborted ((s.inventoryRecord e).pages.filter fun p => p.state = .waiting).length)

end Sys2Proof.Machine
end

