-- ==== Sys2Proof/Machine/Operands.lean ====
section
/-! DEFINITION. The operands of a command record (R25, R28), its verdict (R24) and checks 2 to 4 (R24 to R26). -/

namespace Sys2Proof.Machine

/-- R24: how a command is decided: DONE, STARTED, or refused at a check with a result code. -/
inductive Verdict where
  | done
  | started
  | refused (check : Nat) (code : Nat)
  deriving DecidableEq, Repr

/-- R24: check 1 fails, UNKNOWN. -/
def Verdict.unknown : Verdict := .refused 1 0x80
/-- R24: check 2 fails, RANGE. -/
def Verdict.range : Verdict := .refused 2 0x81
/-- R24: check 3 fails, ABSENT. -/
def Verdict.absent : Verdict := .refused 3 0x82
/-- R24: check 4 fails, LEVEL. -/
def Verdict.level : Verdict := .refused 4 0x83
/-- R24: check 5 fails, STATE. -/
def Verdict.state : Verdict := .refused 5 0x84
/-- R24: check 6 fails, OPERAND. -/
def Verdict.operand : Verdict := .refused 6 0x85
/-- R24: check 6 fails for a curve, CURVE. -/
def Verdict.curve : Verdict := .refused 6 0x86
/-- R24: check 7 fails, NO_SPACE. -/
def Verdict.noSpace : Verdict := .refused 7 0x87
/-- R24: check 7 fails, NEVER_FITS. -/
def Verdict.neverFits : Verdict := .refused 7 0x88
/-- R24: check 7 fails, STALE_ACK. -/
def Verdict.staleAck : Verdict := .refused 7 0x89

/-- R24: the result code. -/
def Verdict.code : Verdict → Nat
  | .done => 0x01
  | .started => 0x02
  | .refused _ code => code

/-- 2.8.3: the detail word: failing check in bits 15..12, origin in 11..8 (PROCESSOR, 0), target index in 7..0;
0 for a command that succeeds (R24). -/
def Verdict.detail (v : Verdict) (target : Byte) : Word :=
  match v with
  | .refused check _ => wordOf (natByte (check * 16 + Origin.processor.code)) target
  | .done | .started => 0

/-! ## The fields of a record (2.8.2, R25, R28) -/

/-- R25: the target index is the low byte of A0. -/
def CommandRecord.target (r : CommandRecord) : Byte := lowByte r.a0

/-- R26: the authority is the high byte of A0. -/
def CommandRecord.authority (r : CommandRecord) : Nat := (highByte r.a0).toNat

/-- An operand's low byte as a number. -/
def lowOperand (w : Word) : Nat := (lowByte w).toNat

/-- R28: an unsigned magnitude clamped to its range. -/
def magnitude (lo hi : Nat) (w : Word) : Nat := clampNat lo hi w.toNat

/-- R28: a signed temperature or offset clamped to its range. -/
def signedMagnitude (lo hi : Int) (w : Word) : Int := clampInt lo hi w.toInt

/-! ## Targets (R25, check 2) -/

/-- An index counted from 1 with n values. -/
def oneBased (n : Nat) (t : Nat) : Option (Fin n) :=
  if h : 1 ≤ t ∧ t ≤ n then some ⟨t - 1, by omega⟩ else none

/-- Slot 1..12. -/
def slotTarget (r : CommandRecord) : Option SlotId := oneBased 12 r.target.toNat
/-- Supply 1..4. -/
def supplyTarget (r : CommandRecord) : Option BayId := oneBased 4 r.target.toNat
/-- Zone 1..3. -/
def zoneTarget (r : CommandRecord) : Option ZoneId := oneBased 3 r.target.toNat
/-- Uplink 1..4. -/
def uplinkTarget (r : CommandRecord) : Option UplinkId := oneBased 4 r.target.toNat

/-- Endpoint 0..19. -/
def endpointTarget (r : CommandRecord) : Option Endpoint :=
  if h : r.target.toNat < 20 then some ⟨r.target.toNat, h⟩ else none

/-- R131: reading source 1..12 or 17..19. -/
def sourceTarget (r : CommandRecord) : Option SourceId :=
  let t := r.target.toNat
  if h : 1 ≤ t ∧ t ≤ 12 then some ⟨t - 1, by omega⟩
  else if h : 17 ≤ t ∧ t ≤ 19 then some ⟨t - 5, by omega⟩
  else none

/-- R176: event source 0..26. -/
def eventSourceTarget (r : CommandRecord) : Option Nat :=
  if r.target.toNat ≤ 26 then some r.target.toNat else none

/-- R25: a targetless command passes check 2 whatever A0's low byte holds. -/
def noTarget (_r : CommandRecord) : Option Unit := some ()

/-- A set of numbered values 0..n-1 read from an operand's low byte (R28). -/
def enumerated (n : Nat) (w : Word) : Option (Fin n) :=
  if h : lowOperand w < n then some ⟨lowOperand w, h⟩ else none

/-! ## Checks 2 to 4 (R24, R26) -/

/-- Check 3 does not apply. -/
def presenceNotNeeded {α : Type} (_t : α) (_s : State) : Bool := true

/-- R25: the slot is present. -/
def slotPresent (n : SlotId) (s : State) : Bool := (s.slot n).state.seated

/-- R25: the endpoint is present. -/
def endpointPresent (e : Endpoint) (s : State) : Bool := s.linkState e != .absent

/-- R26: no required authority: any field from 0 to 3 passes. -/
def anyAuthority {α : Type} (_t : α) (_s : State) (field : Nat) : Bool := field ≤ 3

/-- R26: required authority 0. -/
def zeroAuthority {α : Type} (_t : α) (_s : State) (field : Nat) : Bool := field == 0

/-- R26: a slot power command passes with an authority no greater than the slot's guard level. -/
def guardAuthority (n : SlotId) (s : State) (field : Nat) : Bool := field ≤ 3 && field ≤ (s.slot n).guardLevel

/-- R24: checks 2, 3 and 4 in order, then the owner's own checks and work. A refused command changes nothing. -/
def judgeTarget {α : Type} (find : CommandRecord → Option α) (present : α → State → Bool)
    (allowed : α → State → Nat → Bool) (owner : α → CommandRecord → State → Verdict × State)
    (r : CommandRecord) (s : State) : Verdict × State :=
  match find r with
  | none => (.range, s)
  | some t =>
    if present t s then
      if allowed t s r.authority then owner t r s else (.level, s)
    else (.absent, s)

end Sys2Proof.Machine
end

