-- ==== Sys2Proof/Machine/SlotOps.lean ====
section
/-! DEFINITION. The Slot Controller (05): the moves of the slot state machine with the notices of R70, power requests
and the POWER, FAULT and BUTTON entries. -/

namespace Sys2Proof.Machine

/-! ## Entries (R98) -/

/-- R98: the causes of POWER. -/
inductive PowerCause where
  | sequence | processor | button | auto | blade | budget | stopTimeout | shed | removal | fault
  deriving DecidableEq, Repr

def PowerCause.code : PowerCause → Nat
  | .sequence => 0
  | .processor => 1
  | .button => 2
  | .auto => 3
  | .blade => 4
  | .budget => 5
  | .stopTimeout => 6
  | .shed => 7
  | .removal => 8
  | .fault => 9

/-- R98: the cause a request's origin gives. -/
def Origin.cause : Origin → PowerCause
  | .processor => .processor
  | .button => .button
  | .auto => .auto
  | .blade => .blade

/-- R98: append POWER for a change to a new state. -/
def State.appendPower (s : State) (n : SlotId) (new : SlotState) (cause : PowerCause) : State :=
  s.appendEvent (numberOf n) .power (bytePair cause.code new.code)

/-- R80, R98: append POWER for a refused request: 0x80 plus the origin, and the result code. -/
def State.appendRefusal (s : State) (n : SlotId) (origin : Origin) (v : Verdict) : State :=
  s.appendEvent (numberOf n) .power (bytePair (0x80 + origin.code) v.code)

/-- R98: append FAULT with the reason and the state left. -/
def State.appendFault (s : State) (n : SlotId) (reason : FaultReason) (left : SlotState) : State :=
  s.appendEvent (numberOf n) .fault (bytePair left.code reason.code)

/-! ## ON membership (R70, R124, R149, R162) -/

/-- R70: a slot has entered ON: the Thermal Unit flags it in a CRITICAL zone (R149), the Uplink Allocator selects its
uplink (R162), the Budget Unit takes it as eligible (R124). -/
def State.enteredOn (s : State) (n : SlotId) : State :=
  ((if (s.zone (zoneOf n)).critical then s.setThermalFlag n true else s).rework).markEvaluation

/-- R70: a slot has left ON: its flag is cleared (R149) and its uplink released (R162). -/
def State.leftOn (s : State) (n : SlotId) : State := (s.setThermalFlag n false).rework

/-- R42, R70: the poll-eligibility notice for a blade. -/
def State.syncBladePoll (s : State) (n : SlotId) : State := s.syncPoll (bladeEndpoint n)

/-! ## Faults (R90) -/

/-- R90: entry into FAULTED. A running button debounce timer runs on (R94, log 35). -/
def State.enterFault (s : State) (n : SlotId) (reason : FaultReason) : State :=
  let old := (s.slot n).state
  let moved := s.updateSlot n fun r =>
    { r with state := .faulted, fault := some reason, identificationTimer := none, rampTimer := none, stopTimer := none }
  let released := if old.powered then moved.leftPowered n else moved
  let left := if old = .on then released.leftOn n else released
  ((left.syncBladePoll n).appendPower n .faulted .fault).appendFault n reason old

/-! ## Admission and ramp (R82, R83) -/

/-- R83: RAMPING to ON. -/
def State.enterOn (s : State) (n : SlotId) : State :=
  let moved := s.updateSlot n fun r => { r with state := .on, rampTimer := none }
  (moved.enteredOn n).appendPower n .on .sequence

/-- R82: the admission notice: QUEUED to RAMPING, then ON or FAULTED at once if the lines call for it. -/
def State.enterRamping (s : State) (n : SlotId) : State :=
  let moved := (s.updateSlot n fun r => { r with state := .ramping, rampTimer := some rampPeriod }).appendPower n .ramping .budget
  if (moved.slot n).overcurrent then moved.enterFault n .overcurrent
  else if (moved.slot n).powerGood then moved.enterOn n
  else moved

/-! ## Back to STANDBY (R88, R89) -/

/-- R88: main power off, from RAMPING, ON or STOPPING to STANDBY. A running button debounce timer runs on (log 35). -/
def State.toStandby (s : State) (n : SlotId) (cause : PowerCause) : State :=
  let old := (s.slot n).state
  let moved := s.updateSlot n fun r => { r with state := .standby, rampTimer := none, stopTimer := none }
  let released := moved.leftPowered n
  let left := if old = .on then released.leftOn n else released
  (left.syncBladePoll n).appendPower n .standby cause

/-- R88: QUEUED to STANDBY by POWER_OFF or CANCEL_REQUEST. -/
def State.leaveQueue (s : State) (n : SlotId) : State :=
  ((s.updateSlot n fun r => { r with state := .standby }).withdrawFromQueue n).appendPower n .standby .processor

/-- R118, R123: a shed: the Budget Unit releases its records, gives the shed notice (R89) and appends BUDGET. A slot
not in a powered state has nothing left to shed. -/
def State.shed (s : State) (n : SlotId) (o : BudgetOccasion) : State :=
  if s.powered n then ((s.releaseBudget n).toStandby n .shed).appendBudget o else s

/-- R123: a failed decrease sheds the blade and the Budget Unit evaluates. -/
def State.shedForCap (s : State) (n : SlotId) : State :=
  if s.powered n && (s.budgetRecord n).capTarget.isSome then (s.shed n (.shedCap n)).markEvaluation else s

/-- R123: a CAP outcome FAILED or NOT_SENT with the watts sent. -/
def State.capFailed (s : State) (n : SlotId) (sent : Nat) : State :=
  if sent < (s.budgetRecord n).allocation then s.shedForCap n else s

/-! ## Graceful stop (R85) -/

/-- R85: ON to STOPPING. -/
def State.gracefulStop (s : State) (n : SlotId) (cause : PowerCause) : State :=
  let moved := s.updateSlot n fun r => { r with state := .stopping, stopTimer := some (seconds r.stopTimeout) }
  let asked := moved.requestKind (bladeEndpoint n) .halt .slotController
  ((asked.leftOn n).withdrawDecrease n).appendPower n .stopping cause

/-! ## Power requests (R78 to R80) -/

/-- R79: checks 5 and 7 of a power request; none when it passes. -/
def State.powerChecks (s : State) (n : SlotId) : Option Verdict :=
  let known := (s.inventoryRecord (bladeEndpoint n)).state = .valid || (s.budgetRecord n).override.isSome
  if (s.slot n).state ≠ .standby || !known then some .state
  else
    match s.candidateClass n with
    | none => some .state
    | some c => if (c.max : Int) ≤ s.remainder then none else some .neverFits

/-- R79: a request that passes moves the slot from STANDBY to QUEUED. -/
def State.enterQueued (s : State) (n : SlotId) (origin : Origin) : State :=
  ((s.updateSlot n fun r => { r with state := .queued }).joinQueue n origin).appendPower n .queued origin.cause

/-- R26: the fixed authorities of the other origins; a processor command carries its own. -/
def Origin.authority : Origin → Nat
  | .processor => 0
  | .button => 2
  | .auto => 2
  | .blade => 3

/-- R27: checks 3 to 7 of a request that stands for a POWER_ON. -/
def State.judgeRequest (s : State) (n : SlotId) (origin : Origin) : Option Verdict :=
  if !slotPresent n s then some .absent
  else if !guardAuthority n s origin.authority then some .level
  else s.powerChecks n

/-- R78, R80: a BLADE, BUTTON or AUTO power request. -/
def State.raiseRequest (s : State) (n : SlotId) (origin : Origin) : State :=
  match s.judgeRequest n origin with
  | none => s.enterQueued n origin
  | some v => s.appendRefusal n origin v

/-! ## Identification (R75, R76) -/

/-- R75: what both entries into AUX_ON do: IDENT, the identification timer, the button level without an edge. A button
debounce timer that runs when FAULTED is left runs on (log 35). -/
def State.enterAuxOn (s : State) (n : SlotId) (cause : PowerCause) : State :=
  let moved := s.updateSlot n fun r =>
    { r with state := .auxOn, fault := none, identificationTimer := some identificationPeriod, button := r.rawButton }
  (moved.requestKind (bladeEndpoint n) .ident .slotController).appendPower n .auxOn cause

/-- R76: the slot leaves AUX_ON when its link is UP and its record VALID or BAD; with AUTO_POWER and a VALID record an
AUTO request follows. -/
def State.leaveAuxOn (s : State) (n : SlotId) : State :=
  let record := (s.inventoryRecord (bladeEndpoint n)).state
  if (s.slot n).state = .auxOn && s.linkState (bladeEndpoint n) = .up && (record = .valid || record = .bad) then
    let moved := s.updateSlot n fun r => { r with state := .standby, identificationTimer := none }
    let shown := (moved.syncBladePoll n).appendPower n .standby .sequence
    if s.straps.autoPower && record = .valid then shown.raiseRequest n .auto else shown
  else s

/-! ## Presence (R71 to R74) -/

/-- R130: the endpoint of a source becomes ABSENT. -/
def State.clearReading (s : State) (r : SourceId) : State :=
  s.updateReading r fun q => { q with value := 0, fresh := false, timer := none }

/-- R71: EMPTY or SETTLING with a changed raw line: the debounce timer starts or restarts. -/
def State.settle (s : State) (n : SlotId) : State :=
  s.updateSlot n fun r => { r with state := .settling, presenceTimer := some r.debounce }

/-- R73, R74: a removal. -/
def State.removeBlade (s : State) (n : SlotId) : State :=
  let old := (s.slot n).state
  let moved := s.updateSlot n fun r =>
    { r with state := .settling, rawPresence := false, presenceTimer := some r.debounce, identificationTimer := none,
             rampTimer := none, stopTimer := none, buttonTimer := none, button := false, fault := none }
  let unseated := (moved.bladeUnseated (bladeEndpoint n)).clearReading (bladeSource n)
  let withdrawn := if old = .queued then unseated.withdrawFromQueue n else unseated
  let released := if old.powered then withdrawn.leftPowered n else withdrawn
  let left := if old = .on then released.leftOn n else released
  left.appendPower n .settling .removal

/-- R71, R73: the raw presence line takes a level. -/
def State.presenceLine (s : State) (n : SlotId) (level : Bool) : State :=
  let r := s.slot n
  if r.rawPresence = level then s
  else
    let changed := s.updateSlot n fun r => { r with rawPresence := level }
    match r.state with
    | .empty => if level then changed.settle n else changed
    | .settling => changed.settle n
    | _ => if level then changed else s.removeBlade n

/-- R72: the slot enters AUX_ON from SETTLING: the endpoint becomes present, its record READING with no fields. -/
def State.seatBlade (s : State) (n : SlotId) : State :=
  let e := bladeEndpoint n
  (((s.updateSlot n fun r => { r with presence := true, presenceTimer := none }).linkPresent e).openRecord e).enterAuxOn n
    .sequence

/-- R72: the slot enters EMPTY and the record becomes ABSENT. -/
def State.emptySlot (s : State) (n : SlotId) : State :=
  (s.updateSlot n fun r => { r with state := .empty, presence := false, presenceTimer := none }).closeRecord
    (bladeEndpoint n)

end Sys2Proof.Machine
end

