-- ==== Sys2Proof/Machine/Evaluation.lean ====
section
/-! DEFINITION. The Budget Unit's evaluation (06 sections 6.6, 6.7, 6.9) and CAP outcomes. -/

namespace Sys2Proof.Machine

/-! ## Decreases (R116, R121, R123) -/

/-- R121: request a CAP from the Link Engine. -/
def State.requestCap (s : State) (n : SlotId) (watts : Nat) : State :=
  s.request ⟨bladeEndpoint n, .cap, watts, .budgetUnit⟩

/-- R116, R117, R121, R123: set a decrease to a target, start the cap timer and request the CAP; a request that the
Link Engine answers NOT_SENT at once, because the link is LOST, sheds the blade after these steps. -/
def State.setDecrease (s : State) (n : SlotId) (target : Nat) : State :=
  let set := s.updateBudgetRecord n fun r => { r with capTarget := some target, capTimer := some capPeriod }
  if set.refusesRequest (bladeEndpoint n) .cap then set.capFailed n target else set.requestCap n target

/-! ## The passes -/

/-- R116: a flagged ON blade whose projected value is above its floor. -/
def State.wantsThermalTarget (s : State) (n : SlotId) : Bool :=
  s.isOn n && (s.budgetRecord n).thermalFlag && (s.budgetRecord n).fixedClass.floor < (s.budgetRecord n).projected

/-- R116: the thermal targets, given in the order of the admitted list from its head (log 36). -/
def State.thermalTargets (s : State) : State :=
  s.budget.admitted.foldl
    (fun t n => if t.wantsThermalTarget n then t.setDecrease n (t.budgetRecord n).fixedClass.floor else t) s

/-- R117: the cap order: priority 3 first, within one priority from the tail of the admitted list. -/
def State.capOrder (s : State) : List SlotId :=
  [3, 2, 1, 0].flatMap fun p => s.budget.admitted.reverse.filter fun n => s.priorityOf n = p

/-- R119: the restore order: priority 0 first, within one priority from the head of the admitted list. -/
def State.restoreOrder (s : State) : List SlotId :=
  [0, 1, 2, 3].flatMap fun p => s.budget.admitted.filter fun n => s.priorityOf n = p

/-- R117: one blade of the cap pass, with the deficit still to cover (log 20). -/
def capStep (acc : Nat × State) (n : SlotId) : Nat × State :=
  let (deficit, s) := acc
  if s.isOn n then
    let r := s.budgetRecord n
    let reduction := min deficit (r.projected - r.fixedClass.floor)
    if 0 < reduction then (deficit - reduction, s.setDecrease n (r.projected - reduction)) else acc
  else acc

/-- R117: the cap pass; answers the deficit it leaves. -/
def State.capPass (s : State) : Nat × State := s.capOrder.foldl capStep ((-s.projectedHeadroom).toNat, s)

/-- R118: one blade of the shed pass. -/
def shedStep (acc : Nat × State) (n : SlotId) : Nat × State :=
  let (deficit, s) := acc
  if 0 < deficit && s.powered n then
    (deficit - (s.budgetRecord n).projected, s.shed n (.shedDeficit n))
  else acc

/-- R118: the shed pass. -/
def State.shedPass (s : State) (deficit : Nat) : State := (s.capOrder.foldl shedStep (deficit, s)).2

/-- R119: may the restore pass raise this blade. -/
def State.restorable (s : State) (n : SlotId) : Bool :=
  s.isOn n && !(s.budgetRecord n).thermalFlag && (s.budgetRecord n).allocation < (s.budgetRecord n).fixedClass.max

/-- R119: one blade of the restore pass: the raise counts at once, its CAP carries no mark and no timer. -/
def restoreStep (s : State) (n : SlotId) : State :=
  if s.restorable n && 0 < s.headroom then
    let r := s.budgetRecord n
    let raised := r.allocation + min s.headroom.toNat (r.fixedClass.max - r.allocation)
    (s.updateBudgetRecord n fun r => { r with allocation := raised }).requestCap n raised
  else s

/-- R119: the restore pass. -/
def State.restorePass (s : State) : State :=
  if s.decreasePending then s else s.restoreOrder.foldl restoreStep s

/-- R120: the head is admitted. -/
def State.admitHead (s : State) (n : SlotId) (c : PowerClass) : State :=
  ((s.dropFromQueue n).updateBudgetRecord n fun r =>
    { r with fixedClass := c, allocation := c.max, confirmedCap := 0 }).updateBudget
      (fun b => { b with admitted := b.admitted ++ [n] }) |>.enterRamping n

/-- R120: admissions of heads that fit; the first argument bounds the heads looked at by the queue's length. -/
def State.admitHeads : Nat → State → State
  | 0, s => s
  | k + 1, s =>
    match s.budget.queue with
    | [] => s
    | q :: _ =>
      match s.candidateClass q.slot with
      | none => s
      | some c => if (c.max : Int) ≤ s.headroom then State.admitHeads k (s.admitHead q.slot c) else s

/-- R120: the admission pass. -/
def State.admissionPass (s : State) : State :=
  if s.decreasePending || allSlots.any s.restorable then s else s.admitHeads s.budget.queue.length

/-! ## The evaluation (R115, R126) -/

/-- R126: overcommit begins at a projected headroom below 0, as the thermal targets leave it. -/
def State.beginOvercommit (s : State) : State :=
  if s.projectedHeadroom < 0 && !s.budget.overcommit then
    (s.updateBudget fun b => { b with overcommit := true }).appendBudget .overcommit
  else s

/-- R126: overcommit ends with no decrease pending and H at or above 0. -/
def State.endOvercommit (s : State) : State :=
  if s.budget.overcommit && !s.decreasePending && 0 ≤ s.headroom then
    (s.updateBudget fun b => { b with overcommit := false }).appendBudget .recovered
  else s

/-- R117, R118: the cap pass, then the shed pass on the deficit it leaves. -/
def State.coverDeficit (s : State) : State := s.capPass.2.shedPass s.capPass.1

/-- R115: one evaluation. -/
def State.evaluate (s : State) : State :=
  let started := s.updateBudget fun b => { b with evaluationDue := false, figuresShown := true }
  (started.thermalTargets.beginOvercommit.coverDeficit.restorePass.admissionPass).endOvercommit

/-- R115: a bound on the evaluations of one event: each further one follows an admission or a shed (log 9). -/
def evaluationBound : Nat := 64

/-- R115: evaluate while an input has changed. -/
def State.evaluateWhileDue : Nat → State → State
  | 0, s => s
  | k + 1, s => if s.budget.evaluationDue then State.evaluateWhileDue k s.evaluate else s

/-- No evaluation is due: every input change of the event has been taken in. -/
def State.clearDue (s : State) : State := s.updateBudget fun b => { b with evaluationDue := false }

/-- R115: the last step of an event: the Budget Unit evaluates while an input has changed. -/
def State.finishEvent (s : State) : State := (s.evaluateWhileDue evaluationBound).clearDue

/-! ## CAP outcomes (R122) -/

/-- R122: a decrease is confirmed by an answer to watts below the allocation; it is complete if they are its target, and
stays pending if they are above it, or below it (log 37). -/
def BudgetRecord.confirm (r : BudgetRecord) (sent : Nat) : BudgetRecord :=
  let adopts := match r.pendingClassMax with
    | some m => decide (sent ≤ m)
    | none => false
  let complete := r.capTarget = some sent
  { r with
    allocation := sent
    confirmedCap := sent
    fixedClass := if adopts then { r.fixedClass with max := r.pendingClassMax.getD r.fixedClass.max } else r.fixedClass
    pendingClassMax := if adopts then none else r.pendingClassMax
    capTarget := if complete then none else r.capTarget
    capTimer := if complete then none else r.capTimer }

/-- R122: a CAP outcome OK. -/
def State.capAnswered (s : State) (n : SlotId) (sent accepted : Nat) : State :=
  let r := s.budgetRecord n
  if !s.powered n then s
  else if sent < r.allocation && r.capTarget.isSome && accepted ≠ sent then s.shedForCap n
  else if sent < r.allocation && r.capTarget.isSome then
    (s.updateBudgetRecord n fun r => r.confirm sent).markEvaluation
  else s.updateBudgetRecord n fun r => { r with confirmedCap := accepted }

end Sys2Proof.Machine
end

