-- ==== Sys2Proof/Machine/ThermalOps.lean ====
section
/-! DEFINITION. The Thermal Unit (07): readings, the zone update, the duty law, fans, shutdown and grace. -/

namespace Sys2Proof.Machine

/-! ## Readings (R129, R130) -/

/-- R129: a successful POLL refreshes a source's record. -/
def State.refreshReading (s : State) (r : SourceId) (value : Int) : State :=
  s.updateReading r fun q => { q with value := clampTemperature value, fresh := true, timer := some freshnessPeriod }

/-- R130: the link of a source enters LOST: STALE at once, the value kept. -/
def State.staleReading (s : State) (r : SourceId) : State :=
  s.updateReading r fun q => { q with fresh := false, timer := none }

/-! ## Entries (R146, R152) -/

/-- R146: append FAN with both fans as they stand. -/
def State.appendFan (s : State) (z : ZoneId) : State :=
  s.appendEvent (moduleEndpoint z).val .fan
    (bytePair (s.fan (secondFan z)).state.code (s.fan (firstFan z)).state.code)

/-- R152: the occasions of THERMAL. -/
inductive ThermalOccasion where
  | criticalEntered (flagged : Nat)
  | criticalLeft
  | shutdown (notified : Nat)
  | graceStarted
  | graceExpired (notified : Nat)
  | moduleRestored
  deriving DecidableEq, Repr

/-- R152: the detail word. -/
def ThermalOccasion.detail : ThermalOccasion → Word
  | .criticalEntered n => bytePair n 1
  | .criticalLeft => bytePair 0 2
  | .shutdown n => bytePair n 3
  | .graceStarted => bytePair 0 4
  | .graceExpired n => bytePair n 5
  | .moduleRestored => bytePair 0 6

/-- R152: append THERMAL. -/
def State.appendThermal (s : State) (z : ZoneId) (o : ThermalOccasion) : State :=
  s.appendEvent (moduleEndpoint z).val .thermal o.detail

/-! ## Fans (R144, R145) -/

/-- R145: judge a closed window against the minimum rpm. -/
def Fan.judge (f : Fan) (minimum : Nat) : Fan :=
  if f.rpm < minimum then
    let low := min 2 (f.lowWindows + 1)
    { f with lowWindows := low, goodWindows := 0, state := if f.state = .ok && low = 2 then .failed else f.state }
  else
    let good := min 2 (f.goodWindows + 1)
    { f with lowWindows := 0, goodWindows := good, state := if f.state = .failed && good = 2 then .ok else f.state }

/-- R144, R145: close a fan's tach window and judge it. -/
def Fan.closeWindow (f : Fan) (minimum : Nat) (lowDuty : Bool) : Fan :=
  if f.state = .absent then f
  else
    let closed := { f with rpm := f.pulses * 30, pulses := 0 }
    if f.firstWindow then { closed with firstWindow := false }
    else if lowDuty then { closed with lowWindows := 0, goodWindows := 0 }
    else closed.judge minimum

/-- R136: the number of a zone's fans that are OK. -/
def State.okFans (s : State) (z : ZoneId) : Nat :=
  ([firstFan z, secondFan z].filter fun f => (s.fan f).state = .ok).length

/-- R147: the minimum rpm the module's record supplies, or the default. -/
def State.suppliedMinimumRpm (s : State) (z : ZoneId) : Nat :=
  match s.suppliedFields (moduleEndpoint z) with
  | some i => i.field2
  | none => defaultMinimumRpm

/-- R147: the rated watts per fan the module's record supplies, or the default. -/
def State.suppliedWatts (s : State) (z : ZoneId) : Nat :=
  match s.suppliedFields (moduleEndpoint z) with
  | some i => i.field1
  | none => defaultWattsPerFan

/-- R132, step 1: the windows close and the fans are judged; the next windows open. -/
def State.closeWindows (s : State) (z : ZoneId) : State :=
  let minimum := s.suppliedMinimumRpm z
  let mark := (s.zone z).lowDuty
  let closed := (s.updateFan (firstFan z) fun f => f.closeWindow minimum mark).updateFan (secondFan z) fun f =>
    f.closeWindow minimum mark
  let opened := closed.updateZone z fun r => { r with minimumRpm := minimum, lowDuty := r.duty < 200 }
  if (opened.fan (firstFan z)).state = (s.fan (firstFan z)).state
      && (opened.fan (secondFan z)).state = (s.fan (secondFan z)).state then opened
  else opened.appendFan z

/-! ## Temperature (R133) -/

/-- R133: what a reading contributes. -/
def Reading.contribution (r : Reading) (stale : Int) : Int :=
  if r.fresh then clampTemperature (r.value + r.offset) else stale

/-- R133: the sources of a zone: its ON blades, and its module while present. -/
def State.zoneSources (s : State) (z : ZoneId) : List SourceId :=
  ((slotsOf z).filter s.isOn).map bladeSource ++ (if (s.zone z).module then [moduleSource z] else [])

/-- R133: the zone temperature: the largest contribution, t_stale when there is none. -/
def State.formTemperature (s : State) (z : ZoneId) : Int :=
  let stale := (s.zone z).limits.stale
  match (s.zoneSources z).map fun r => (s.reading r).contribution stale with
  | [] => stale
  | t :: rest => rest.foldl max t

/-! ## Duty (R134, R136 to R139) -/

/-- R134: the curve duty, for a temperature above the point before the list. -/
def curveFrom (p : CurvePoint) : List CurvePoint → Int → Nat
  | [], _ => p.duty
  | q :: rest, t =>
    if t < q.temperature then
      p.duty + ceilDiv ((q.duty - p.duty) * (t - p.temperature).toNat) (q.temperature - p.temperature).toNat
    else curveFrom q rest t

/-- R134: the curve duty D_c. -/
def curveDuty : List CurvePoint → Int → Nat
  | [], _ => 0
  | p :: rest, t => if t ≤ p.temperature then p.duty else curveFrom p rest t

/-- R136: the floor and the fan-failure boost. -/
def boostedDuty (target okFans : Nat) : Nat := if okFans = 0 then 1000 else min 1000 (ceilDiv (target * 2) okFans)

/-- R137: the slew from the previous duty, at most upStep up and downStep down. -/
def slewedDuty (previous target upStep downStep : Nat) : Nat :=
  if previous ≤ target then previous + min upStep (target - previous)
  else previous - min downStep (previous - target)

/-- R137, R138: the emergency: T_z at or above t_crit, or no OK fan. -/
def State.emergency (s : State) (z : ZoneId) : Bool :=
  (s.zone z).limits.critical ≤ (s.zone z).temperature || s.okFans z = 0

/-- R138: the manual duty clamped to floor..1000. -/
def Zone.manualTarget (r : Zone) : Nat := clampNat r.limits.floor 1000 r.manualDuty

/-- R132, step 3: the duty of an update. -/
def State.updateDuty (s : State) (z : ZoneId) : Nat :=
  let r := s.zone z
  if s.emergency z then 1000
  else if r.manual then r.manualTarget
  else
    slewedDuty r.duty (boostedDuty (max (curveDuty r.curve r.temperature) r.limits.floor) (s.okFans z))
      r.limits.upStep r.limits.downStep

/-- R141, R144: the duty is replaced, the PWM outputs follow, and a duty below 200 marks the window. -/
def State.setDuty (s : State) (z : ZoneId) (duty : Nat) : State :=
  s.updateZone z fun r => { r with duty := duty, lowDuty := r.lowDuty || duty < 200 }

/-- R141: the fan allocation: for each OK fan the ceiling of rated watts times D cubed over 10^9. -/
def State.fanAllocation (s : State) (z : ZoneId) : Nat :=
  s.okFans z * ceilDiv ((s.zone z).wattsPerFan * (s.zone z).duty ^ 3) 1000000000

/-- R141: compute and report the fan allocation. -/
def State.reportFans (s : State) (z : ZoneId) : State := s.reportAllocation z (s.fanAllocation z)

/-- R139: the duty re-formed outside an update. -/
def State.reformedDuty (s : State) (z : ZoneId) : Nat :=
  let r := s.zone z
  if s.emergency z then 1000 else if r.manual then r.manualTarget else max r.duty r.limits.floor

/-- R139: re-form the duty and report the fan allocation. -/
def State.reformDuty (s : State) (z : ZoneId) : State := (s.setDuty z (s.reformedDuty z)).reportFans z

/-! ## CRITICAL, shutdown, grace (R148, R150, R151) -/

/-- Set or clear the thermal flags of some blades. -/
def State.flagBlades (s : State) (slots : List SlotId) (flag : Bool) : State :=
  slots.foldl (fun t n => t.setThermalFlag n flag) s

/-- R148: the CRITICAL condition. -/
def State.judgeCritical (s : State) (z : ZoneId) : State :=
  let r := s.zone z
  let running := (slotsOf z).filter s.isOn
  if !r.critical && r.limits.critical ≤ r.temperature then
    ((s.updateZone z fun r => { r with critical := true }).flagBlades running true).appendThermal z
      (.criticalEntered running.length)
  else if r.critical && r.temperature < r.limits.critical - 4 then
    ((s.updateZone z fun r => { r with critical := false }).flagBlades (slotsOf z) false).appendThermal z .criticalLeft
  else s

/-- R150, R151: the blades of a zone that a shutdown notice reaches, the lowest slot first (log 39). -/
def State.shutdownTargets (s : State) (z : ZoneId) : List SlotId :=
  (slotsOf z).filter fun n => (s.slot n).state = .on || (s.slot n).state = .stopping

/-- R92: a shutdown notice; a slot not in ON or STOPPING does not act on it. -/
def State.shutdownNotice (s : State) (n : SlotId) : State :=
  if (s.slot n).state = .on || (s.slot n).state = .stopping then s.enterFault n .thermal else s

/-- R150, R151: the shutdown notices of a zone, the lowest slot first: so stand the POWER and FAULT entries of the blades
they fault (R175, log 39). -/
def State.shutdownZone (s : State) (z : ZoneId) : State := (s.shutdownTargets z).foldl State.shutdownNotice s

/-- R150: the shutdown count, and the shutdown at 3. -/
def State.countShutdown (s : State) (z : ZoneId) : State :=
  let r := s.zone z
  let count := if r.temperature < r.limits.shutdown then 0 else min 3 (r.shutdownCount + 1)
  let counted := s.updateZone z fun r => { r with shutdownCount := count }
  let notified := (counted.shutdownTargets z).length
  if count = 3 && 0 < notified then (counted.shutdownZone z).appendThermal z (.shutdown notified) else counted

/-- R151: later updates with the grace expired. -/
def State.judgeGrace (s : State) (z : ZoneId) : State :=
  let notified := (s.shutdownTargets z).length
  if (s.zone z).graceExpired && 0 < notified then (s.shutdownZone z).appendThermal z (.graceExpired notified) else s

/-- R132, R147, step 7: the rated watts are taken, the fan allocation computed and reported. -/
def State.reportUpdate (s : State) (z : ZoneId) : State :=
  (s.updateZone z fun r => { r with wattsPerFan := s.suppliedWatts z }).reportFans z

/-- R132: the seven steps of a zone update. -/
def State.updateZoneNow (s : State) (z : ZoneId) : State :=
  let windows := s.closeWindows z
  let formed := windows.updateZone z fun r => { r with temperature := windows.formTemperature z }
  let driven := formed.setDuty z (formed.updateDuty z)
  (((driven.judgeCritical z).countShutdown z).judgeGrace z).reportUpdate z

/-! ## Modules (R142, R143) -/

/-- R142: a fan as it is fitted. -/
def fittedFan : Fan := { state := .ok, firstWindow := true }

/-- R143: a fan as it is removed. -/
def removedFan : Fan := {}

/-- Replace both fans of a zone. -/
def State.setFans (s : State) (z : ZoneId) (f : Fan) : State :=
  (s.updateFan (firstFan z) fun _ => f).updateFan (secondFan z) fun _ => f

/-- R142: the module becomes present. Its allocation is reported at the rated watts in use, those of the latest update: for
a module put back before an update, the removed module's (R147, log 38). -/
def State.insertModule (s : State) (z : ZoneId) : State :=
  let marked := s.updateZone z fun r => { r with module := true, graceTimer := none, graceExpired := false }
  let present := (marked.devicePresent (moduleEndpoint z)).setFans z fittedFan
  ((present.appendFan z).appendThermal z .moduleRestored).reformDuty z

/-- R143: the module becomes absent. -/
def State.removeModule (s : State) (z : ZoneId) : State :=
  let marked := s.updateZone z fun r => { r with module := false, graceTimer := some (seconds r.limits.grace) }
  let gone := ((marked.deviceAbsent (moduleEndpoint z)).clearReading (moduleSource z)).setFans z removedFan
  ((gone.appendFan z).appendThermal z .graceStarted).reformDuty z

/-- R151: the grace timer expires with the module absent. -/
def State.expireGrace (s : State) (z : ZoneId) : State :=
  let expired := s.updateZone z fun r => { r with graceTimer := none, graceExpired := true }
  (expired.shutdownZone z).appendThermal z (.graceExpired (expired.shutdownTargets z).length)

end Sys2Proof.Machine
end

