-- ==== Sys2Proof/Machine/Rows.lean ====
section
/-! DEFINITION. The words of the served rows (2.8.3, 2.8.4) as functions of the records: what a snapshot takes (R30).
Each section of a row is one list of words in column order. -/

namespace Sys2Proof.Machine

/-- A flag as bit 0. -/
def flagWord (b : Bool) : Word := natWord (flagAt 0 b)

/-- A sum of flags as a word. -/
def flagsWord (flags : List (Nat × Bool)) : Word := natWord (flags.map fun f => flagAt f.1 f.2).sum

/-- Signed byte of an offset. -/
def signedByte (i : Int) : Byte := BitVec.ofInt 8 i

/-! ## Status row, columns 0..79: path and intake -/

def BurstLength.code : BurstLength → Nat
  | .one => 0
  | .two => 1
  | .four => 2
  | .eight => 3
  | .fullRow => 7

def BurstType.code : BurstType → Nat
  | .sequential => 0
  | .interleaved => 1

def ReadLatency.slots : ReadLatency → Nat
  | .two => 2
  | .three => 3

/-- 2.8.1: the mode in the line positions of the mode value. -/
def ModeFields.lines (m : ModeFields) : Nat :=
  m.length.code + 8 * m.type.code + 16 * m.latency.slots + flagAt 9 m.singleWrite

/-- Column 1: bit 15 set when the mode is valid, 0 when none; an invalid mode shows its own lines 9..0 (log 23). -/
def Mode.shown : Mode → Word
  | .none => 0
  | .valid m => natWord (m.lines + 2 ^ 15)
  | .invalid v => (v.extractLsb' 0 10).setWidth 16

/-- Column 2: the straps. -/
def strapsWord (p : Straps) : Word :=
  natWord (p.windowBank.val + 4 * p.windowBase.val + flagAt 7 p.autoPower + 256 * p.redundancy.val)

/-- R22: the pending flags of sixteen command slots from `first`. -/
def Window.pendingFlags (w : Window) (first : Nat) : Word :=
  natWord ((w.queue.filter fun r => first ≤ r.slot.val && r.slot.val < first + 16).map fun r =>
    2 ^ (r.slot.val - first)).sum

/-- Column 4: the head of the intake queue. -/
def Window.shownHead (w : Window) : Word :=
  match w.queue with
  | [] => 0x00FF
  | r :: _ => natWord r.slot.val

/-- Column 75: the last completed slot and tag. -/
def Window.shownLast (w : Window) : Word :=
  match w.lastCompleted with
  | none => 0xFFFF
  | some (slot, tag) => wordOf (natByte slot.val) tag

/-- Columns 8 + 2s and 9 + 2s. -/
def Completion.words (c : Completion) : List Word := [wordOf c.result c.tag, c.detail]

/-- Columns 0 to 79. -/
def State.headerWords (s : State) : List Word :=
  let w := s.window
  [natWord s.path.state.code, s.path.mode.shown, strapsWord s.straps, natWord w.queue.length, w.shownHead,
    w.pendingFlags 0, w.pendingFlags 16, wordOf (natByte w.collisionCount) w.collisionSlot]
  ++ w.completions.toList.flatMap Completion.words
  ++ [s.livePresence.setWidth 16, s.changedMask.setWidth 16, w.postsAccepted, w.shownLast, 0, 0, 0, 0]

/-! ## Status row, columns 80..271: slots -/

/-- Offset 2: the lines of a slot (R69). -/
def State.slotLines (s : State) (n : SlotId) : Word :=
  let r := s.slot n
  flagsWord [(0, r.rawPresence), (1, r.presence), (2, r.button), (3, r.powerGood), (4, r.overcurrent),
    (8, s.auxEnable n), (9, s.mainEnable n)]

/-- Offset 7: queue position and origin. -/
def State.shownQueue (s : State) (n : SlotId) : Word :=
  match queuePlace s.budget.queue n 1 with
  | none => 0
  | some (place, q) => bytePair place q.origin.code

/-- A reading's FRESH mark and offset. -/
def Reading.mark (r : Reading) : Word := wordOf (signedByte r.offset) (natByte (flagAt 0 r.fresh))

/-- The sixteen words of a slot record. -/
def State.slotWords (s : State) (n : SlotId) : List Word :=
  let r := s.slot n
  let b := s.budgetRecord n
  let c := (s.classInEffect n).getD ⟨0, 0⟩
  let t := s.reading (bladeSource n)
  [natWord r.state.code, natWord ((r.fault.map FaultReason.code).getD 0), s.slotLines n,
    natWord (r.guardLevel + flagAt 8 (r.buttonEdge == .release) + flagAt 9 (r.buttonAction == .powerToggle)),
    natWord r.debounce, natWord r.stopTimeout, natWord b.priority, s.shownQueue n,
    natWord b.allocation, natWord c.max, natWord c.floor,
    natWord (b.capTarget.getD 0), natWord b.confirmedCap,
    flagsWord [(0, b.capTarget.isSome), (1, b.thermalFlag), (2, b.override.isSome)],
    intWord t.value, t.mark]

/-! ## Status row, columns 272..351: supplies and zones -/

/-- The eight words of a supply record; bays 1 and 2 are on feed A. -/
def State.supplyWords (s : State) (i : BayId) : List Word :=
  let r := s.supply i
  [natWord r.state.code, natWord (s.effectiveRating i), natWord (s.ratingSource i), natWord (r.override.getD 0),
    flagsWord [(0, r.rawPresent), (1, r.rawOk)], natWord (i.val / 2), 0, 0]

/-- The sixteen words of a zone record. -/
def State.zoneWords (s : State) (z : ZoneId) : List Word :=
  let r := s.zone z
  let t := s.reading (moduleSource z)
  [flagWord r.manual, intWord r.temperature, natWord r.duty,
    natWord (flagAt 0 r.critical + flagAt 1 r.module + flagAt 2 r.graceTimer.isSome + 256 * r.shutdownCount),
    natWord s.budget.fanAllocations[z], natWord r.limits.floor, intWord r.limits.critical, intWord r.limits.shutdown,
    intWord r.limits.stale, natWord r.limits.upStep, natWord r.limits.downStep, natWord r.limits.grace,
    natWord r.manualDuty, natWord r.curve.length, intWord t.value, t.mark]

/-! ## Status row, columns 352..471: fans, uplinks, pins and the budget summary -/

/-- R144: the last rpm as one word; a free value above 65535 (log 22). -/
def rpmWord (rpm : Nat) : Word := if rpm < 65536 then natWord rpm else Config.rpmOverflow rpm

/-- The four words of a fan record. -/
def State.fanWords (s : State) (f : FanId) : List Word :=
  let r := s.fan f
  [natWord r.state.code, rpmWord r.rpm, bytePair r.goodWindows r.lowWindows,
    natWord (s.zone (zoneOfFan f)).minimumRpm]

/-- The eight words of an uplink record. -/
def State.uplinkWords (s : State) (u : UplinkId) : List Word :=
  let r := s.port u
  [flagWord r.up, natWord r.capacity, natWord r.group,
    natWord (flagAt 0 r.link + 2 * r.speed.val + flagAt 3 r.fault),
    natWord (s.weightSum u), natWord (s.members u).length, natWord s.uplinks.failbackHold, 0]

/-- The four words of a pin record. -/
def State.pinWords (s : State) (n : SlotId) : List Word :=
  let r := s.pin n
  [natWord (uplinkNumber r.active + 16 * uplinkNumber r.preferred + flagAt 8 r.failbackTimer.isSome),
    bytePair ((r.confirmed.map Prod.fst).getD 0xFF) r.weight, natWord r.rate,
    natWord ((r.confirmed.map Prod.snd).getD 0)]

/-- The slot number at a place of the admission queue, 0 past its end. -/
def State.queuedSlotAt (s : State) (place : Nat) : Nat :=
  match s.budget.queue[place]? with
  | none => 0
  | some q => numberOf q.slot

/-- A budget figure, 0 until the first evaluation (R127, log 30). -/
def State.figure (s : State) (i : Int) : Word := if s.budget.figuresShown then intWord i else 0

/-- Columns 456 to 471; bit 0 of column 464 is the overcommit condition of R126 (log 31). -/
def State.budgetWords (s : State) : List Word :=
  [natWord s.budget.redundancy.code, s.figure s.capacity, natWord s.budget.baseLoad, natWord s.fanTotal,
    s.figure s.commitment, s.figure s.projectedCommitment, s.figure s.headroom, s.figure s.projectedHeadroom,
    flagsWord [(0, s.budget.overcommit), (1, s.decreasePending)],
    bytePair s.budget.admitted.length s.budget.queue.length]
  ++ [0, 2, 4, 6, 8, 10].map fun place => bytePair (s.queuedSlotAt (place + 1)) (s.queuedSlotAt place)

/-- The status row (2.8.3), columns 0 to 471; a later column reads zero. -/
def State.statusRow (s : State) : List Word :=
  s.headerWords ++ allSlots.flatMap s.slotWords ++ allFour.flatMap s.supplyWords ++ allZones.flatMap s.zoneWords
    ++ [0, 1, 2, 3, 4, 5].flatMap s.fanWords ++ allFour.flatMap s.uplinkWords ++ allSlots.flatMap s.pinWords
    ++ s.budgetWords

/-! ## Catalogue row (2.8.4) -/

/-- Bytes as words, low byte first; a last odd byte stands alone. -/
def wordsOfBytes : List Byte → List Word
  | [] => []
  | [b] => [wordOf 0 b]
  | a :: b :: rest => wordOf b a :: wordsOfBytes rest

/-- The first `n` words of a list followed by zeros. -/
def padded (n : Nat) (words : List Word) : List Word := (words ++ List.replicate n 0).take n

/-- R65: offsets 2 to 15, and the kind, of a record with fields. -/
def Identity.words (i : Identity) (pages : Nat) : List Word :=
  [i.model, wordOf (natByte i.pageCount) i.revision, natWord i.serial.length]
  ++ padded 8 (wordsOfBytes i.serial)
  ++ [natWord i.field1, natWord i.field2, wordOf (natByte pages) (i.abilities.setWidth 8)]

/-- R65: the fields a summary shows: those of a VALID record and the kept ones of a READING record. -/
def InventoryRecord.shownFields (r : InventoryRecord) : Option Identity :=
  match r.state with
  | .valid | .reading => r.fields
  | .absent | .bad => none

/-- R65: the sixteen words of an endpoint's summary. -/
def State.summaryWords (s : State) (e : Endpoint) : List Word :=
  let r := s.inventoryRecord e
  let l := s.linkRecord e
  let linkWord := bytePair l.failures l.state.code
  match r.shownFields with
  | none => padded 16 [bytePair 0 r.state.code, linkWord]
  | some i => [wordOf i.kind (natByte r.state.code), linkWord] ++ i.words r.pages.length

/-- R64: the page the aperture selects, if it is held. -/
def State.viewedPage (s : State) : Option Page :=
  (s.inventoryRecord s.inventory.viewEndpoint).pages[s.inventory.viewPage - 1]?

/-- R64: columns 320 to 387. -/
def State.apertureWords (s : State) : List Word :=
  let data := match s.viewedPage with
    | some p => if p.state = .read then wordsOfBytes p.data else []
    | none => []
  [natWord s.inventory.viewEndpoint.val, natWord s.inventory.viewPage,
    natWord ((s.viewedPage.map fun p => p.state.code).getD 0), natWord s.inventory.free.length]
  ++ padded 64 data

/-- R178: the four words of an event entry. -/
def EventEntry.words (e : EventEntry) : List Word :=
  [natWord e.source, natWord (kindCode e.kind), natWord e.count, e.detail]

/-- R178: columns 388 onward; a position past the entry count reads zero. -/
def State.eventWords (s : State) : List Word :=
  [natWord s.events.entries.length, s.events.mask.setWidth 16, flagWord s.attentionLine, 0, 0, 0, 0, 0]
  ++ s.events.entries.flatMap EventEntry.words

/-- The catalogue row (2.8.4); a later column reads zero. -/
def State.catalogueRow (s : State) : List Word :=
  allEndpoints.flatMap s.summaryWords ++ s.apertureWords ++ s.eventWords

/-- R30: the word of a column of a snapshot. -/
def snapshotWord (snapshot : List Word) (column : Nat) : Word := snapshot.getD column 0

end Sys2Proof.Machine
end

