-- ==== Sys2Proof/Machine/WindowOps.lean ====
section
/-! DEFINITION. The Window Decoder (02): capture, posts, posting at a burst end, completion, served reads. -/

namespace Sys2Proof.Machine

/-! ## Capture and posts (R17, R18) -/

/-- R18: the command slot whose post word lies at a column. -/
def postSlot (column : Nat) : Option CommandSlot :=
  if h : column < 256 ∧ column % 8 = 7 then some ⟨column / 8, by omega⟩ else none

/-- R18: a slot enters the post list at its tail, once. -/
def enterPost (posts : List CommandSlot) (c : CommandSlot) : List CommandSlot :=
  if c ∈ posts then posts else posts ++ [c]

/-- R18: the post list after a transferred word. -/
def postsAfter (posts : List CommandSlot) (column : Nat) (lanes : Lanes) : List CommandSlot :=
  match postSlot column with
  | none => posts
  | some c => if lanes.high.isSome then enterPost posts c else posts

/-- R17, R18: a transferred word of an intake burst. -/
def State.captureWord (s : State) (column : Nat) (lanes : Lanes) : State :=
  s.updateWindow fun w =>
    { w with
      shadow := if column < shadowColumns then writeLanes w.shadow column lanes else w.shadow
      postList := postsAfter w.postList column lanes }

/-! ## Posting (R19, R21) -/

/-- R19: the record a post of a slot latches from the shadow. -/
def State.recordAt (s : State) (c : CommandSlot) : CommandRecord :=
  let column (k : Nat) := s.shadowWord (8 * c.val + k)
  { slot := c, code := highByte (column 7), tag := lowByte (column 7), a0 := column 0, a1 := column 1, a2 := column 2,
    a3 := column 3, a4 := column 4, a5 := column 5, a6 := column 6 }

/-- R22: is a command slot PENDING. -/
def Window.isPending (w : Window) (c : CommandSlot) : Bool := w.queue.any fun r => r.slot = c

/-- R21: a post to a PENDING slot. -/
def State.collide (s : State) (c : CommandSlot) : State :=
  (s.updateWindow fun w =>
    { w with collisionSlot := natByte c.val, collisionCount := min 255 (w.collisionCount + 1) }).appendEvent 26 .collision
    (natWord c.val)

/-- R19: a post that is queued. -/
def State.queuePost (s : State) (r : CommandRecord) : State :=
  s.updateWindow fun w => { w with queue := w.queue ++ [r], postsAccepted := w.postsAccepted + 1 }

/-- R19: one slot of the post list. -/
def State.post (s : State) (c : CommandSlot) : State :=
  let r := s.recordAt c
  if r.code = 0 then s
  else if s.window.isPending c then s.collide c
  else s.queuePost r

/-- R19: the burst-end notice of an intake burst. -/
def State.takePosts (s : State) : State :=
  (s.window.postList.foldl State.post s).updateWindow fun w => { w with postList := [] }

/-- R14, R19: a burst-end notice; only an intake burst's has an effect at the Window Decoder. -/
def State.burstEnded (s : State) (n : BurstNotice) : State :=
  match n.window with
  | .intake => s.takePosts
  | .status | .catalogue | .outside => s

/-- R14, R18: the window treatment of a burst stops without a notice: its posts are discarded. -/
def State.discardPosts (s : State) : State := s.updateWindow fun w => { w with postList := [] }

/-! ## Served reads (R30, R31) -/

/-- R30: the snapshot of a window row, empty where the row is not served. -/
def State.snapshotOf (s : State) : WindowRow → List Word
  | .status => s.statusRow
  | .catalogue => s.catalogueRow
  | .outside | .intake => []

/-- R31: the column 72 word of a status-row burst has transferred. -/
def State.latchPresence (s : State) (snapshot : List Word) : State :=
  s.updateWindow fun w => { w with latchedPresence := (snapshotWord snapshot 72).setWidth 12 }

/-! ## Completion (R23) -/

/-- R23: the completion of the command taken. -/
def State.complete (s : State) (r : CommandRecord) (v : Verdict) : State :=
  s.updateWindow fun w =>
    { w with
      completions := w.completions.set r.slot { result := natByte v.code, tag := r.tag, detail := v.detail r.target }
      lastCompleted := some (r.slot, r.tag)
      queue := w.queue.tail }

end Sys2Proof.Machine
end

