-- ==== Sys2Proof/Machine/PathOps.lean ====
section
/-! DEFINITION. The Path Tracker (01): slots, banks, anomalies, the mode, bursts and their words. -/

namespace Sys2Proof.Machine

/-! ## Column order (R11) -/

/-- R5, R11: the words of a burst; none for a full row. -/
def BurstLength.words : BurstLength → Option Nat
  | .one => some 1
  | .two => some 2
  | .four => some 4
  | .eight => some 8
  | .fullRow => none

/-- R11: the column of word k. -/
def wordColumn (length : BurstLength) (type : BurstType) (start k : Nat) : Nat :=
  match length.words with
  | none => (start + k) % 1024
  | some b =>
    match type with
    | .sequential => start - start % b + (start % b + k) % b
    | .interleaved => start - start % b + (start % b ^^^ k)

/-! ## A burst's slots (R9, R11, R12) -/

/-- R11: the slots between the command and word 0 (log 11). -/
def Burst.offset (b : Burst) : Nat :=
  match b.direction with
  | .read => b.latency
  | .write => 0

/-- Has the burst a word whose slot has not passed. -/
def Burst.remaining (b : Burst) : Bool :=
  match b.limit with
  | none => true
  | some l => b.next < l

/-- R9: one more counted slot; words whose slot has passed without a word on the bus are skipped (log 10). -/
def Burst.advance (b : Burst) : Burst :=
  { b with elapsed := b.elapsed + 1, next := max b.next (b.elapsed + 1 - b.offset) }

/-- The counted slots from now to the slot of the burst's next word. -/
def Burst.wait (b : Burst) : Nat := b.offset + b.next - b.elapsed

/-- R12: the words that take part when a command ends the burst in the current slot: those with c + k < t. -/
def Burst.cut (b : Burst) : Burst :=
  { b with limit := some (match b.limit with
      | none => b.elapsed
      | some l => min l b.elapsed) }

/-- R14: is the burst served from a snapshot. -/
def Burst.served (b : Burst) : Bool :=
  match b.window with
  | .status | .catalogue => true
  | .outside | .intake => false

/-- R13, R14: does a word of a served burst cross two counted slots from now. -/
def Burst.masksDevice (b : Burst) : Bool :=
  b.served && b.offset ≤ b.elapsed + 2 &&
    match b.limit with
    | none => true
    | some l => b.elapsed + 2 - b.offset < l

/-! ## Accesses without a burst (R1, log 32) -/

/-- R9: one more counted slot. -/
def LooseRead.advance : LooseRead → LooseRead
  | .over => .over
  | .running => .running
  | .ending k => if k ≤ 1 then .over else .ending (k - 1)

/-- R12: a command ends the read; at a read latency of at most 3 its words cross in this slot and the next two (R5, R12). -/
def LooseRead.finish : LooseRead → LooseRead
  | .over => .over
  | .running => .ending 3
  | .ending k => .ending k

/-- The counted slots from now to the slot of its next word. -/
def LooseWrite.wait (w : LooseWrite) : Nat := if w.crossed then 1 else 0

/-- R9: one more counted slot. -/
def LooseWrite.advance (w : LooseWrite) : Option LooseWrite :=
  if w.left.any (· ≤ 1) then none else some { w with left := w.left.map (· - 1), crossed := false }

/-- The write after the word of the current slot has crossed. -/
def LooseWrite.pass (w : LooseWrite) : Option LooseWrite :=
  if w.left.any (· ≤ 1) then none else some { w with crossed := true }

/-! ## Banks and anomalies (R3, R4) -/

/-- Is any bank ACTIVE. -/
def Path.anyActive (p : Path) : Bool := p.banks.toList.any fun b => b != .idle

/-- R3: all four banks IDLE. -/
def State.idleBanks (s : State) : State := s.updatePath fun p => { p with banks := Vector.replicate 4 .idle }

/-- R4: the anomalies. -/
inductive Anomaly where
  | openActivate | idleAccess | openRefresh | openMode | modeInvalid
  deriving DecidableEq, Repr

/-- R4: the detail. -/
def Anomaly.detail : Anomaly → Word
  | .openActivate => 1
  | .idleAccess => 2
  | .openRefresh => 3
  | .openMode => 4
  | .modeInvalid => 5

/-- R4: the states in which an anomaly appends PATH. -/
def PathState.reports : PathState → Bool
  | .primed | .ready | .modeFault => true
  | .uninit | .sleep => false

/-- R4: an anomaly appends PATH with source 25. -/
def State.anomaly (s : State) (a : Anomaly) : State :=
  if s.path.state.reports then s.appendEvent 25 .path a.detail else s

/-- An anomaly that arises if a condition holds. -/
def State.anomalyIf (s : State) (c : Bool) (a : Anomaly) : State := if c then s.anomaly a else s

/-! ## Ends of bursts (R12, R14) -/

/-- R12, R14: the burst in progress ends: its auto-precharge makes its bank IDLE (log 29), read words that take part and
have not crossed keep crossing, and the notice of a window burst goes to the Window Decoder. The notice carries the columns
that have transferred by then; words that cross after a command has ended a served read are in no notice (log 34). -/
def State.endBurst (s : State) (reason : EndReason) : State :=
  match s.path.burst with
  | none => s
  | some b =>
    let rest := b.cut
    let ended := s.updatePath fun p =>
      { p with
        burst := none
        trailing := if b.direction = .read && rest.remaining then p.trailing ++ [rest] else p.trailing }
    let closed := if b.autoPrecharge then ended.setBank b.bank .idle else ended
    closed.burstEnded { window := b.window, columns := b.columns, reason := reason }

/-- R12: a command ends every access under way: the burst in progress, and a write and a read without one. -/
def State.endAccess (s : State) (reason : EndReason) : State :=
  (s.updatePath fun p => { p with looseWrite := none, looseRead := p.looseRead.finish }).endBurst reason

/-- R12: a burst whose last word's slot has passed ends COMPLETE. -/
def State.completeBurst (s : State) : State :=
  match s.path.burst with
  | none => s
  | some b => if b.remaining then s else s.endBurst .complete

/-- R14: the path leaves READY: the window treatment of the bursts stops without a notice. -/
def State.stopWindow (s : State) : State :=
  (s.updatePath fun p =>
    { p with
      burst := p.burst.map fun b => { b with window := .outside }
      trailing := p.trailing.map fun b => { b with window := .outside } }).discardPosts

/-! ## Transfer slots (R1, R9, R13) -/

/-- R1: every line that arrived in the slot before is driven on, and this slot's command lines and masks arrive. -/
def State.forward (s : State) (command : CommandLines) (masks : Masks) : State :=
  s.updatePath fun p => { p with driven := p.arrived, arrived := { command := command, masks := masks } }

/-- R9, R13: a counted slot: the masks move back by one and the bursts advance; a burst that is over ends. -/
def State.countSlot (s : State) (masks : Masks) : State :=
  (s.updatePath fun p =>
    { p with
      masks := { now := masks, oneBack := p.masks.now, twoBack := p.masks.oneBack }
      burst := p.burst.map Burst.advance
      trailing := (p.trailing.map Burst.advance).filter Burst.remaining
      looseWrite := p.looseWrite.bind LooseWrite.advance
      looseRead := p.looseRead.advance }).completeBurst

/-- R14: both read masks are driven high toward the SDRAM device in the slots that silence it for served words. -/
def State.maskDevice (s : State) : State :=
  if (s.path.trailing ++ s.path.burst.toList).any Burst.masksDevice then
    s.updatePath fun p => { p with arrived := { p.arrived with masks := ⟨true, true⟩ } }
  else s

/-- R16 and log 4: the path is held while a reset line is asserted. -/
def State.pathHeld (s : State) : Bool := s.processorReset || s.chassisReset

/-- R1, R8, R16: a transfer slot with the clock enable high: its lines are forwarded, and its command is taken unless the
path is held or asleep (log 14). -/
def State.takeSlot (s : State) (command : CommandLines) (masks : Masks) (effect : State → State) : State :=
  let forwarded := s.forward command masks
  if s.pathHeld || s.path.state = .sleep then forwarded else (effect (forwarded.countSlot masks)).maskDevice

/-! ## Reads and writes (R10) -/

/-- R10: the window row of a burst. -/
def State.windowRow (s : State) (bank : BankId) (row : BitVec 13) (direction : Direction) : WindowRow :=
  if s.path.state = .ready && bank = s.straps.windowBank then
    let base := 256 * s.straps.windowBase.val
    match direction with
    | .write => if row.toNat = base then .intake else .outside
    | .read => if row.toNat = base + 1 then .status else if row.toNat = base + 2 then .catalogue else .outside
  else .outside

/-- R10: the burst length of an access. -/
def ModeFields.lengthFor (m : ModeFields) (direction : Direction) : BurstLength :=
  if direction = .write && m.singleWrite then .one else m.length

/-- R10, R18, R30: a burst starts. Words of an earlier read that still have to cross keep crossing, beside a write too:
only their masks decide whether they transfer (R12, R13). -/
def State.startBurst (s : State) (m : ModeFields) (direction : Direction) (bank : BankId) (row : BitVec 13)
    (column : BitVec 10) (autoPrecharge : Bool) : State :=
  let window := s.windowRow bank row direction
  let b : Burst :=
    { bank := bank, row := row, start := column, direction := direction, length := m.lengthFor direction, type := m.type,
      latency := m.latency.slots, autoPrecharge := autoPrecharge, window := window, elapsed := 0, next := 0,
      limit := (m.lengthFor direction).words, columns := [], snapshot := s.snapshotOf window }
  let started := s.updatePath fun p => { p with burst := some b }
  if window = .intake then started.discardPosts else started

/-- R5: is a mode valid. -/
def Mode.isValid : Mode → Bool
  | .valid _ => true
  | .none | .invalid _ => false

/-- R5, R11: the words of a write; none for a full row, and without a valid mode (log 32). -/
def Mode.writeWords : Mode → Option Nat
  | .valid m => (m.lengthFor .write).words
  | .none | .invalid _ => Option.none

/-- R1: an access that starts no burst: the words of a write still travel toward the SDRAM device, and those of a read
toward the processor. The device answers no read of a bank that is IDLE, unless the bank records are not yet true to it, in
UNINIT or without a valid mode (log 32). -/
def State.passAccess (s : State) (direction : Direction) (bank : BankId) : State :=
  match direction with
  | .read =>
    if s.path.state = .uninit || !s.path.mode.isValid then s.updatePath fun p => { p with looseRead := .running } else s
  | .write => s.updatePath fun p => { p with looseWrite := some { bank := bank, left := p.mode.writeWords } }

/-- R10: a read or write command. -/
def State.access (s : State) (direction : Direction) (bank : BankId) (column : BitVec 10) (autoPrecharge : Bool) :
    State :=
  let ended := s.endAccess .interrupted
  match ended.bank bank with
  | .idle => (ended.anomaly .idleAccess).passAccess direction bank
  | .active row =>
    match ended.path.mode with
    | .valid m => ended.startBurst m direction bank row column autoPrecharge
    | .none | .invalid _ =>
      (if autoPrecharge then ended.setBank bank .idle else ended).passAccess direction bank

/-! ## The other commands (R3, R5 to R8) -/

/-- R3: an activate. -/
def State.activateBank (s : State) (bank : BankId) (row : BitVec 13) : State :=
  (s.anomalyIf (s.bank bank != .idle) .openActivate).setBank bank (.active row)

/-- R3, R12: a precharge. -/
def State.prechargeBank (s : State) (bank : BankId) : State :=
  let ended := match s.path.burst with
    | some b => if b.bank = bank then s.endBurst .precharged else s
    | none => s
  (ended.updatePath fun p => { p with looseWrite := p.looseWrite.filter (·.bank != bank) }).setBank bank .idle

/-- R3, R6, R12: a precharge-all. -/
def State.prechargeAllBanks (s : State) : State :=
  let idle := (s.endAccess .precharged).idleBanks
  if idle.path.state = .uninit then
    idle.updatePath fun p => { p with state := .primed, refreshCount := 0, modeSeen := false }
  else idle

/-- R6: readiness is complete. -/
def State.checkReady (s : State) : State :=
  if s.path.state = .primed && s.path.refreshCount = 2 && s.path.modeSeen then
    s.updatePath fun p => { p with state := .ready }
  else s

/-- R4, R6: an auto refresh. -/
def State.refresh (s : State) : State :=
  let told := s.anomalyIf s.path.anyActive .openRefresh
  if told.path.state = .primed then
    (told.updatePath fun p => { p with refreshCount := min 2 (p.refreshCount + 1) }).checkReady
  else told

/-- R3, R4, R8: a self-refresh entry. -/
def State.enterSelfRefresh (s : State) : State :=
  let ended := s.endAccess .precharged
  let idle := (ended.anomalyIf ended.path.anyActive .openRefresh).idleBanks
  if idle.path.state = .ready then (idle.updatePath fun p => { p with state := .sleep }).stopWindow else idle

/-- R3, R8: a self-refresh exit. -/
def State.exitSelfRefresh (s : State) : State :=
  let idle := s.idleBanks
  if idle.path.state = .sleep then idle.updatePath fun p => { p with state := .ready } else idle

/-- R5: the burst length field. -/
def burstLengthOf (code : Nat) : Option BurstLength :=
  match code with
  | 0 => some .one
  | 1 => some .two
  | 2 => some .four
  | 3 => some .eight
  | 7 => some .fullRow
  | _ => none

/-- R5: the read latency field. -/
def readLatencyOf (code : Nat) : Option ReadLatency :=
  match code with
  | 2 => some .two
  | 3 => some .three
  | _ => none

/-- R5: the mode a mode register set carries. -/
def decodeMode (bank : BankId) (value : BitVec 13) : Mode :=
  let type : BurstType := if value.getLsbD 3 then .interleaved else .sequential
  match burstLengthOf (value.extractLsb' 0 3).toNat, readLatencyOf (value.extractLsb' 4 3).toNat with
  | some length, some latency =>
    if bank = 0 && value.extractLsb' 7 2 = 0 && !(length = .fullRow && type = .interleaved) then
      .valid { length := length, type := type, latency := latency, singleWrite := value.getLsbD 9 }
    else .invalid value
  | _, _ => .invalid value

/-- R4 to R7: a mode register set. -/
def State.setMode (s : State) (bank : BankId) (value : BitVec 13) : State :=
  let mode := decodeMode bank value
  let told := (s.anomalyIf s.path.anyActive .openMode).anomalyIf (!mode.isValid) .modeInvalid
  let adopted := told.updatePath fun p => { p with mode := mode }
  match adopted.path.state with
  | .primed => (adopted.updatePath fun p => { p with modeSeen := mode.isValid }).checkReady
  | .ready =>
    if mode.isValid then adopted else (adopted.updatePath fun p => { p with state := .modeFault }).stopWindow
  | .modeFault => if mode.isValid then adopted.updatePath fun p => { p with state := .ready } else adopted
  | .uninit | .sleep => adopted

/-! ## Words (R13, R14) -/

/-- R13: the unmasked lanes of a word. -/
def unmaskedLanes (masks : Masks) (word : Word) : Lanes :=
  { low := if masks.low then none else some (lowByte word), high := if masks.high then none else some (highByte word) }

/-- R1: a data word arrives in the direction it travels. -/
def State.driveData (s : State) (direction : Direction) (lanes : Lanes) : State :=
  s.updatePath fun p =>
    { p with arrived := match direction with
      | .read => { p.arrived with readData := lanes }
      | .write => { p.arrived with writeData := lanes } }

/-- R1: the whole word is driven on in a direction. A word that belongs to no kept burst is driven so whatever masks were
sampled: the model's choice beside R13, since what the SDRAM device drives has met those masks there (log 32). -/
def State.driveWord (s : State) (direction : Direction) (data : Word) : State :=
  s.driveData direction { low := some (lowByte data), high := some (highByte data) }

/-- R13, R14: the column of a burst's next word. -/
def Burst.column (b : Burst) : Nat := wordColumn b.length b.type b.start.toNat b.next

/-- R13: the masks that apply to a word in the current slot. -/
def SampledMasks.for (m : SampledMasks) : Direction → Masks
  | .read => m.twoBack
  | .write => m.now

/-- R13: is a word transferred under these masks. -/
def masksTransfer (m : Masks) : Bool := !(m.low && m.high)

/-- R13: the burst after its next word has had its slot. -/
def Burst.pass (b : Burst) (masks : Masks) : Burst :=
  { b with next := b.next + 1, columns := if masksTransfer masks then b.columns ++ [b.column] else b.columns }

/-- R14: what a transferred word does at the Window Decoder. -/
def State.windowWord (s : State) (b : Burst) (lanes : Lanes) : State :=
  match b.window with
  | .intake => s.captureWord b.column lanes
  | .status => if b.column = 72 then s.latchPresence b.snapshot else s
  | .catalogue | .outside => s

/-- R1, R13, R14: the next word of a burst crosses the bus in the current slot. A served word comes from the snapshot
in place of the device's data. -/
def State.crossWord (s : State) (b : Burst) (data : Word) : State :=
  let masks := s.path.masks.for b.direction
  let word := if b.served then snapshotWord b.snapshot b.column else data
  let lanes := unmaskedLanes masks word
  let driven := match b.direction with
    | .read => s.driveData .read lanes
    | .write => s.driveWord .write data
  if masksTransfer masks then driven.windowWord b lanes else driven

/-- The bursts of a direction that still have words, the oldest first. -/
def Path.crossing (p : Path) (direction : Direction) : List Burst :=
  (p.trailing ++ p.burst.toList).filter fun b => b.direction = direction && b.remaining

/-- The counted slots to each access's next word in a direction. -/
def Path.waits (p : Path) (direction : Direction) : List Nat :=
  (p.crossing direction).map Burst.wait ++ match direction with
    | .read => []
    | .write => p.looseWrite.toList.map LooseWrite.wait

/-- The counted slots to the next word in a direction; none where the word on the bus now belongs to no access followed.
While words of a read without a burst can cross, a read word is of the current slot (log 32). -/
def Path.nextWait (p : Path) (direction : Direction) : Option Nat :=
  match p.waits direction with
  | [] => none
  | w :: rest =>
    let wait := rest.foldl min w
    if direction = .read && p.looseRead != .over && wait != 0 then none else some wait

/-- Log 10: idle slots, deselects with no mask, pass until the next word is due. -/
def State.passSlots : Nat → State → State
  | 0, s => s
  | k + 1, s => State.passSlots k (((s.forward {} {}).countSlot {}).maskDevice)

/-- Is a word of the burst, in a direction, due in the current slot. -/
def Burst.due (direction : Direction) (b : Burst) : Bool := b.direction = direction && b.remaining && b.wait = 0

/-- R13: a burst after the current slot's word in a direction: its own if one is due. -/
def Burst.passDue (direction : Direction) (masks : SampledMasks) (b : Burst) : Burst :=
  if b.due direction then b.pass (masks.for direction) else b

/-- R1: in a slot of a write without a burst the word toward the SDRAM device is that write's. -/
def State.crossLoose (s : State) (word : BusWord) : State :=
  match word.direction, s.path.looseWrite with
  | .write, some w =>
    if w.crossed then s else (s.driveWord .write word.data).updatePath fun p => { p with looseWrite := w.pass }
  | .write, none | .read, _ => s

/-- R12, R13: the word on the bus is the one of every burst of its direction with a word due in the current slot, each under
its own masks (log 12). The slot's command has been taken before it: the model's choice where the word is a burst's last, whose
COMPLETE end and auto-precharge so come after the command (log 42). -/
def State.crossDue (s : State) (word : BusWord) : State :=
  let due := (s.path.trailing ++ s.path.burst.toList).filter (Burst.due word.direction)
  let crossed := due.foldl (fun t b => t.crossWord b word.data) s
  (crossed.updatePath fun p =>
    { p with
      trailing := (p.trailing.map (Burst.passDue word.direction p.masks)).filter Burst.remaining
      burst := p.burst.map (Burst.passDue word.direction p.masks) }).completeBurst

/-- R1, R14: a data word on the bus; one of no access followed is only driven on in its direction. A word given in a
clock-low slot is taken as one given in the counted slot before it, under that slot's masks, and driven with the clock-low
slot (R9, log 15). -/
def State.transferWord (s : State) (word : BusWord) : State :=
  if s.pathHeld || s.path.state = .sleep then s.driveWord word.direction word.data
  else
    match s.path.nextWait word.direction with
    | none => s.driveWord word.direction word.data
    | some wait => ((State.passSlots wait s).crossLoose word).crossDue word

end Sys2Proof.Machine
end

