-- ==== Sys2Proof/Machine/LinkEvents.lean ====
section
/-! DEFINITION. The rows of the slot links (03): the end of a transaction and the Link Engine's timers. -/

namespace Sys2Proof.Machine

/-! ## Hand-off to the requester (R46, R48) -/

/-- R48, R86: the halted flag ends STOPPING. -/
def State.haltedFlag (s : State) (n : SlotId) : State :=
  if (s.slot n).state = .stopping then s.toStandby n .sequence else s

/-- R48, R78: the power-request flag raises a BLADE request in STANDBY; in any other state it is not acted on, but where
the POLL was sent in STANDBY the request has fallen together with what moved the slot, and is judged against the state that
left (R27, R78, log 41). -/
def State.powerRequestFlag (s : State) (n : SlotId) (fromStandby : Bool) : State :=
  if (s.slot n).state = .standby || fromStandby then s.raiseRequest n .blade else s

/-- R48, R86: a blade's flags; a slot acts on at most one of them, by its state when the POLL is taken (log 33). -/
def State.bladeFlags (s : State) (n : SlotId) (flags : Byte) (fromStandby : Bool) : State :=
  if (s.slot n).state = .stopping && flags.getLsbD 1 then s.haltedFlag n
  else if flags.getLsbD 0 then s.powerRequestFlag n fromStandby else s

/-- R170: the switch module's ready flag. -/
def State.readyFlag (s : State) (ready : Bool) : State :=
  if ready = s.uplinks.switchReady then s
  else
    let set := s.updateUplinks fun k => { k with switchReady := ready }
    if ready then set.requestPins else set.unconfirmPins

/-- R48: a successful POLL. -/
def State.pollAnswered (s : State) (e : Endpoint) (data : List Byte) (fromStandby : Bool) : State :=
  match deviceOf e with
  | .blade n => (s.refreshReading (bladeSource n) (wordAt data 0).toInt).bladeFlags n (data.getD 2 0) fromStandby
  | .fanModule z => s.refreshReading (moduleSource z) (wordAt data 0).toInt
  | .switch => s.readyFlag ((data.getD 0 0).getLsbD 0)
  | .supply _ => s

/-- R46: a CAP outcome. -/
def State.capOutcome (s : State) (e : Endpoint) (sent : Nat) (result : TransactionResult) : State :=
  match deviceOf e with
  | .blade n =>
    match result with
    | .success data => s.capAnswered n sent (wordAt data 0).toNat
    | .failed _ => s.capFailed n sent
  | .switch | .supply _ | .fanModule _ => s

/-- R46: the outcome is handed to the requester. A HALT outcome changes nothing at the Slot Controller (R85); an IDENT
failure is acted on once the link state it leaves is known (R55, `identFailed`). -/
def State.handOutcome (s : State) (t : Transaction) (result : TransactionResult) : State :=
  match t.kind, result with
  | .ident, .success data => s.identityPage t.endpoint data
  | .ident, .failed _ => s
  | .page, r => s.pageOutcome t.endpoint t.argument r
  | .poll, .success data => s.pollAnswered t.endpoint data t.fromStandby
  | .poll, .failed _ => s
  | .cap, r => s.capOutcome t.endpoint t.argument r
  | .halt, _ => s
  | .pins, .success _ => s.confirmPins t.table
  | .pins, .failed _ => s.pinsFailed

/-! ## The new link state (R39 to R41, R62, R130, R170) -/

/-- The blocks that follow an endpoint's link see it enter UP: the Slot Controller (R76) and, for the switch, the
Uplink Allocator (R170). -/
def State.followUp (s : State) (e : Endpoint) : State :=
  match deviceOf e with
  | .switch => s.requestPins
  | .blade n => s.leaveAuxOn n
  | .supply _ | .fanModule _ => s

/-- The blocks that follow an endpoint's link see it enter LOST: readings turn stale (R130), a pending decrease fails
(R123), the pin table is unconfirmed (R170), a fetch is aborted (R62). -/
def State.followLost (s : State) (e : Endpoint) : State :=
  let told := match deviceOf e with
    | .blade n => (s.staleReading (bladeSource n)).shedForCap n
    | .fanModule z => s.staleReading (moduleSource z)
    | .switch => (s.updateUplinks fun k => { k with switchReady := false }).unconfirmPins
    | .supply _ => s
  told.abortFetch e

/-- R41, R46: an entry removed at the entry into LOST is handed back NOT_SENT. -/
def State.notSent (s : State) (r : Request) : State :=
  match r.kind with
  | .cap => s.capOutcome r.endpoint r.argument (.failed .refused)
  | .pins => s.unconfirmPins
  | .page => s.pageOutcome r.endpoint r.argument (.failed .refused)
  | .halt | .poll | .ident => s

/-- R41: the entry actions of LOST. -/
def State.enterLost (s : State) (e : Endpoint) : State :=
  let removed := s.link.table.filter fun q => q.endpoint = e && q.kind ≠ .ident
  let started := (s.updateLinkRecord e fun r => { r with reconnectTimer := some reconnectPeriod, pollTimer := none }).updateLink
    fun l => { l with table := l.table.filter fun q => !(q.endpoint = e && q.kind ≠ .ident) }
  removed.foldl State.notSent started

/-- R39: append LINK with the endpoint as source. -/
def State.appendLink (s : State) (e : Endpoint) (state : LinkState) : State :=
  s.appendEvent e.val .link (natWord state.code)

/-- R39: a success on the link record. -/
def State.linkSuccess (s : State) (e : Endpoint) : State :=
  let old := s.linkState e
  let cleared := s.updateLinkRecord e fun r => { r with state := .up, failures := 0, reconnectTimer := none }
  if old = .up then cleared
  else ((if old = .lost then cleared.appendLink e .up else cleared).followUp e).syncPoll e

/-- R39, R40: a failure on the link record; a third one hands the new link state on before R41's actions (log 24). -/
def State.linkFailure (s : State) (e : Endpoint) : State :=
  let old := s.linkRecord e
  let counted := s.updateLinkRecord e fun r => { r with failures := min 3 (r.failures + 1) }
  if old.state = .lost then counted
  else if 3 ≤ old.failures + 1 then
    let lost := (counted.updateLinkRecord e fun r => { r with state := .lost }).appendLink e .lost
    (lost.followLost e).enterLost e
  else if old.state = .contact then counted.requestIfNone e .ident
  else counted

/-- R39: the result is applied to the link record. -/
def State.applyResult (s : State) (e : Endpoint) (result : TransactionResult) : State :=
  match result with
  | .success _ => s.linkSuccess e
  | .failed _ => s.linkFailure e

/-- R55: what follows an IDENT failure, and R76: what follows a record that has settled with the link UP. -/
def State.afterResult (s : State) (t : Transaction) (result : TransactionResult) : State :=
  match t.kind, result with
  | .ident, .failed _ => s.identFailed t.endpoint
  | .ident, .success _ =>
    match deviceOf t.endpoint with
    | .blade n => s.leaveAuxOn n
    | .switch | .supply _ | .fanModule _ => s
  | _, _ => s

/-! ## The end of a transaction (R36, R46, R47) -/

/-- R44, R46: the engine becomes free and the arbiter runs (log 19). -/
def State.freeEngine (s : State) : State := (s.updateLink fun l => { l with inFlight := none }).arbitrate

/-- R36, R46, R47: the result of the transaction in flight is discarded, or applied and handed on; the requester has it
before the new link state (R39). -/
def State.judged (s : State) (t : Transaction) (result : TransactionResult) : State :=
  if s.presenceMatches t then
    ((((s.handOutcome t result).applyResult t.endpoint result).afterResult t result).finishEvent).freeEngine
  else s.freeEngine

/-- ANSWER_RECEIVED (R36): the last byte of an answer arrives. Bytes on a link that awaits none are ignored (log 18), and
so are late bytes of an earlier transaction while the request in flight is not yet sent and its timer not started (R36,
R49). -/
def execAnswerReceived (e : Endpoint) (bytes : List Byte) (s : State) : Host.Outcome State Fault Refusal :=
  .next (match s.link.inFlight with
    | none => s
    | some t => if t.endpoint = e && t.timer.isSome then s.judged t (judgeAnswer t.kind e bytes) else s)

/-- TRANSACTION_TIMEOUT (R36). -/
def execTransactionTimeout (s : State) : Host.Outcome State Fault Refusal :=
  .next (match s.link.inFlight with
    | none => s
    | some t => if t.timer.isSome then s.judged t (.failed .timeout) else s)

/-- REQUEST_FRAME_SENT (R36): the transaction timer starts at the end of the request. -/
def execRequestFrameSent (s : State) : Host.Outcome State Fault Refusal :=
  .next (match s.link.inFlight with
    | none => s
    | some t =>
      if t.timer.isSome then s
      else s.updateLink fun l => { l with inFlight := some { t with timer := some transactionPeriod } })

/-! ## Timers (R41, R42) -/

/-- RECONNECT_TIMER_EXPIRY (R41). -/
def execReconnectTimerExpiry (e : Endpoint) (s : State) : Host.Outcome State Fault Refusal :=
  .next (if (s.linkRecord e).reconnectTimer.isSome then
      (s.updateLinkRecord e fun r => { r with reconnectTimer := some reconnectPeriod }).requestIfNone e .ident
    else s)

/-- POLL_TIMER_EXPIRY (R42). -/
def execPollTimerExpiry (e : Endpoint) (s : State) : Host.Outcome State Fault Refusal :=
  .next (if (s.linkRecord e).pollTimer.isSome then
      (s.updateLinkRecord e fun r => { r with pollTimer := some (pollPeriodOf e) }).requestIfNone e .poll
    else s)

end Sys2Proof.Machine
end

