-- ==== Sys2Proof/Machine/ThermalEvents.lean ====
section
/-! DEFINITION. The rows of the Thermal Unit (07). -/

namespace Sys2Proof.Machine

/-- FRESHNESS_TIMER_EXPIRY (R129): STALE, the value kept. -/
def execFreshnessTimerExpiry (r : SourceId) (s : State) : Host.Outcome State Fault Refusal :=
  .next (if (s.reading r).timer.isSome then s.staleReading r else s)

/-- ZONE_UPDATE (R132): the update timer expires and starts again. -/
def execZoneUpdate (z : ZoneId) (s : State) : Host.Outcome State Fault Refusal :=
  .next (if (s.zone z).updateTimer.isSome then
      ((s.updateZone z fun r => { r with updateTimer := some updatePeriod }).updateZoneNow z).finishEvent
    else s)

/-- TACH_PULSE (R144). -/
def execTachPulse (f : FanId) (s : State) : Host.Outcome State Fault Refusal :=
  .next (if (s.fan f).state = .absent then s else s.updateFan f fun r => { r with pulses := r.pulses + 1 })

/-- MODULE_PRESENT_LINE_CHANGE (R142). -/
def execModulePresentLineChange (z : ZoneId) (level : Bool) (s : State) : Host.Outcome State Fault Refusal :=
  let set := s.updateZone z fun r => { r with rawModule := level }
  .next (if s.chassisReset || (s.zone z).rawModule = level then set
    else set.updateZone z fun r => { r with moduleTimer := some moduleDebounce })

/-- R142, R143: a module-present line's debounce timer expires. -/
def State.debounceModule (s : State) (z : ZoneId) : State :=
  let r := s.zone z
  let settled := s.updateZone z fun r => { r with moduleTimer := none }
  if r.rawModule = r.module then settled
  else if r.rawModule then settled.insertModule z
  else settled.removeModule z

/-- MODULE_DEBOUNCE_EXPIRY (R142, R143). -/
def execModuleDebounceExpiry (z : ZoneId) (s : State) : Host.Outcome State Fault Refusal :=
  .next (if (s.zone z).moduleTimer.isSome then (s.debounceModule z).finishEvent else s)

/-- GRACE_TIMER_EXPIRY (R151). -/
def execGraceTimerExpiry (z : ZoneId) (s : State) : Host.Outcome State Fault Refusal :=
  .next (if (s.zone z).graceTimer.isSome then (s.expireGrace z).finishEvent else s)

end Sys2Proof.Machine
end

