-- ==== Sys2Proof/Machine/UplinkEvents.lean ====
section
/-! DEFINITION. The rows of the Uplink Allocator (08). -/

namespace Sys2Proof.Machine

/-- R156: an UP uplink's down hold-off starts at a fall of the link line and ends at a rise. -/
def State.syncDownTimer (s : State) (u : UplinkId) : State :=
  s.updatePort u fun r => { r with downTimer := if r.link then none else some downHoldOff }

/-- R155, R156: a changed link line. -/
def State.linkLine (s : State) (u : UplinkId) : State :=
  if (s.port u).up then s.syncDownTimer u else s.syncUpTimer u

/-- UPLINK_LINK_CHANGE (R155, R156). -/
def execUplinkLinkChange (u : UplinkId) (level : Bool) (s : State) : Host.Outcome State Fault Refusal :=
  let set := s.updatePort u fun r => { r with link := level }
  .next (if s.chassisReset || (s.port u).link = level then set else set.linkLine u)

/-- R155, R156: a changed far-end fault line. -/
def State.faultLine (s : State) (u : UplinkId) : State :=
  if (s.port u).up then (if (s.port u).fault then s.declareDown u .farEndFault else s) else s.syncUpTimer u

/-- FAR_END_FAULT_CHANGE (R155, R156). -/
def execFarEndFaultChange (u : UplinkId) (level : Bool) (s : State) : Host.Outcome State Fault Refusal :=
  let set := s.updatePort u fun r => { r with fault := level }
  .next (if s.chassisReset || (s.port u).fault = level then set else set.faultLine u)

/-- R157: a changed speed code of an UP uplink. -/
def State.changeSpeed (s : State) (u : UplinkId) : State :=
  ((s.updatePort u fun r => { r with capacity := speedCapacity r.speed }).rerate).reportUplink u .speedChanged

/-- SPEED_LINE_CHANGE (R157). -/
def execSpeedLineChange (u : UplinkId) (code : Fin 4) (s : State) : Host.Outcome State Fault Refusal :=
  let set := s.updatePort u fun r => { r with speed := code }
  .next (if (s.port u).up && (s.port u).speed != code then set.changeSpeed u else set)

/-- UP_HOLD_OFF_EXPIRY (R155). -/
def execUpHoldOffExpiry (u : UplinkId) (s : State) : Host.Outcome State Fault Refusal :=
  .next (if !(s.port u).up && (s.port u).upTimer.isSome then s.declareUp u else s)

/-- DOWN_HOLD_OFF_EXPIRY (R156). -/
def execDownHoldOffExpiry (u : UplinkId) (s : State) : Host.Outcome State Fault Refusal :=
  .next (if (s.port u).up && (s.port u).downTimer.isSome then s.declareDown u .linkHeld else s)

/-- FAILBACK_TIMER_EXPIRY (R164). -/
def execFailbackTimerExpiry (n : SlotId) (s : State) : Host.Outcome State Fault Refusal :=
  .next (if (s.pin n).failbackTimer.isSome then (s.updatePin n fun r => { r with failbackTimer := none }).rework else s)

end Sys2Proof.Machine
end

