-- ==== Sys2Proof/Machine/Resets.lean ====
section
/-! DEFINITION. The resets (R16, R33, R49, R68, R100, R127, R153, R172, R180). -/

namespace Sys2Proof.Machine

/-- R1, R16: the Path Tracker's initial state; the lines it forwards are not records of it. -/
def Path.initial (p : Path) : Path := { arrived := p.arrived, driven := p.driven }

/-- PROCESSOR_RESET: the path (R16) and the window (R33) return to their initial state, the aperture selection to
endpoint 0, page 1 (R68), the attention mask to all enabled (R180); the chassis blocks run on (R50, R101, R128, R154,
R173). The line stays asserted until its release. -/
def execProcessorReset (s : State) : Host.Outcome State Fault Refusal :=
  .next { s with
    processorReset := true
    path := s.path.initial
    window := {}
    inventory := { s.inventory with viewEndpoint := 0, viewPage := 1 }
    events := { s.events with mask := 0x1FFF } }

/-- PROCESSOR_RESET_RELEASE (R16): tracking begins, in UNINIT. -/
def execProcessorResetRelease (s : State) : Host.Outcome State Fault Refusal :=
  .next { s with processorReset := false }

/-- R15, R127: the redundancy mode a strap gives; 11 is taken as N_PLUS_1. -/
def strapRedundancy (code : Fin 4) : Redundancy :=
  match code with
  | 0 => .none
  | 2 => .feedSplit
  | 1 | 3 => .nPlusOne

/-- R100: a slot at chassis reset keeps the levels of its lines and nothing else (log 28). -/
def SlotRecord.initial (r : SlotRecord) : SlotRecord :=
  { rawPresence := r.rawPresence, rawButton := r.rawButton, powerGood := r.powerGood, overcurrent := r.overcurrent }

/-- R127: a supply bay at chassis reset. -/
def Supply.initial (r : Supply) : Supply := { rawPresent := r.rawPresent, rawOk := r.rawOk }

/-- R153: a zone at chassis reset. -/
def Zone.initial (r : Zone) : Zone := { rawModule := r.rawModule }

/-- R172: uplink u at chassis reset takes the reset values of its place and keeps the levels of its lines. -/
def Uplink.initial (r reset : Uplink) : Uplink := { reset with link := r.link, speed := r.speed, fault := r.fault }

/-- A vector with f applied at each index of a list. -/
def mapAt {α : Type} {n : Nat} (indexes : List (Fin n)) (f : Fin n → α → α) (v : Vector α n) : Vector α n :=
  indexes.foldl (fun (w : Vector α n) (i : Fin n) => w.set i (f i w[i])) v

/-- CHASSIS_RESET (R15, R16, R33, R49, R68, R100, R127, R153, R172, R180): the straps are latched and every block
returns to its initial state. The queue of waiting commands, the processor reset line, the forwarded lines and the
levels of the input lines are no block's records (log 28). -/
def execChassisReset (straps : Straps) (s : State) : Host.Outcome State Fault Refusal :=
  let reset : Uplinks := {}
  .next { State.reset with
    pending := s.pending
    processorReset := s.processorReset
    straps := straps
    path := s.path.initial
    slots := mapAt allSlots (fun _ r => r.initial) s.slots
    budget := { redundancy := strapRedundancy straps.redundancy, supplies := mapAt allFour (fun _ r => r.initial) s.budget.supplies }
    thermal := { zones := mapAt allZones (fun _ r => r.initial) s.thermal.zones }
    uplinks := { ports := mapAt allFour (fun u r => r.initial reset.ports[u]) s.uplinks.ports } }

/-- R71, R100: a slot whose raw presence is high is taken as having risen. -/
def State.releaseSlot (s : State) (n : SlotId) : State := if (s.slot n).rawPresence then s.settle n else s

/-- R102, R127: each supply line that is high is taken as having changed. -/
def State.releaseSupply (s : State) (i : BayId) : State :=
  s.updateSupply i fun r =>
    { r with presentTimer := if r.rawPresent then some supplyDebounce else none,
             okTimer := if r.rawOk then some supplyDebounce else none }

/-- R153: a zone's update timer starts, with the debounce of its module or its grace timer. -/
def State.releaseZone (s : State) (z : ZoneId) : State :=
  let started := s.updateZone z fun r => { r with updateTimer := some updatePeriod }
  if (s.zone z).rawModule then started.updateZone z fun r => { r with moduleTimer := some moduleDebounce }
  else
    (started.updateZone z fun r => { r with graceTimer := some (seconds r.limits.grace) }).appendThermal z .graceStarted

/-- The end of a chassis reset (R49, R100, R127, R153, R172): the lines act as if they had risen, the timers start, and
the arbiter begins with the IDENT of the switch module (R68, log 4). Zones are taken in the order 1, 2, 3, and so stand
their GRACE_STARTED entries (R153, R180, log 40). -/
def State.releaseChassis (s : State) : State :=
  let running := { s with chassisReset := false }
  let slots := allSlots.foldl State.releaseSlot running
  let supplies := allFour.foldl State.releaseSupply slots
  let zones := allZones.foldl State.releaseZone supplies
  let uplinks := allFour.foldl State.syncUpTimer zones
  uplinks.arbitrate

/-- CHASSIS_RESET_RELEASE. -/
def execChassisResetRelease (s : State) : Host.Outcome State Fault Refusal :=
  .next (if s.chassisReset then s.releaseChassis else s)

end Sys2Proof.Machine
end

