-- ==== Sys2Proof/Machine/SdramStream.lean ====
section
/-! DEFINITION. The rows of the SDRAM command stream (01): each command is one transfer slot. -/

namespace Sys2Proof.Machine

/-- R2: the command lines of a slot with the clock enable high and chip select low. -/
def selectedLines (rowStrobe columnStrobe writeEnable : Bool) (bank : BankId) (address : BitVec 13) : CommandLines :=
  { strobes := ⟨false, rowStrobe, columnStrobe, writeEnable⟩, bank := bank, address := address }

/-- R2: the address lines of a row for which line 10 has a meaning of its own. -/
def addressOf (upper : BitVec 2) (line10 : Bool) (low : BitVec 10) : BitVec 13 := upper ++ (BitVec.ofBool line10 ++ low)

/-- ACTIVATE (R3). -/
def execActivate (bank : BankId) (row : BitVec 13) (masks : Masks) (s : State) : Host.Outcome State Fault Refusal :=
  .next (s.takeSlot (selectedLines false true true bank row) masks fun t => t.activateBank bank row)

/-- READ (R10). -/
def execRead (bank : BankId) (column : BitVec 10) (autoPrecharge : Bool) (lines : AccessLines) (s : State) :
    Host.Outcome State Fault Refusal :=
  .next (s.takeSlot (selectedLines true false true bank (addressOf lines.upper autoPrecharge column)) lines.toMasks
    fun t => t.access .read bank column autoPrecharge)

/-- WRITE (R10). -/
def execWrite (bank : BankId) (column : BitVec 10) (autoPrecharge : Bool) (lines : AccessLines) (s : State) :
    Host.Outcome State Fault Refusal :=
  .next (s.takeSlot (selectedLines true false false bank (addressOf lines.upper autoPrecharge column)) lines.toMasks
    fun t => t.access .write bank column autoPrecharge)

/-- PRECHARGE (R3, R12). -/
def execPrecharge (bank : BankId) (lines : PrechargeLines) (s : State) : Host.Outcome State Fault Refusal :=
  .next (s.takeSlot (selectedLines false true false bank (addressOf lines.upper false lines.lower)) lines.toMasks
    fun t => t.prechargeBank bank)

/-- PRECHARGE_ALL (R3, R6, R12). -/
def execPrechargeAll (lines : PrechargeAllLines) (s : State) : Host.Outcome State Fault Refusal :=
  .next (s.takeSlot (selectedLines false true false lines.bank (addressOf lines.upper true lines.lower)) lines.toMasks
    State.prechargeAllBanks)

/-- AUTO_REFRESH (R4, R6). -/
def execAutoRefresh (lines : AddressLines) (s : State) : Host.Outcome State Fault Refusal :=
  .next (s.takeSlot (selectedLines false false true lines.bank lines.address) lines.toMasks State.refresh)

/-- SELF_REFRESH_ENTRY (R8): the auto refresh's strobes in the slot at which the clock enable falls (R2). -/
def execSelfRefreshEntry (lines : AddressLines) (s : State) : Host.Outcome State Fault Refusal :=
  .next (s.takeSlot { selectedLines false false true lines.bank lines.address with clockEnable := false } lines.toMasks
    State.enterSelfRefresh)

/-- SELF_REFRESH_EXIT (R8): taken in SLEEP too, whatever the strobes. -/
def execSelfRefreshExit (lines : StrobeLines) (s : State) : Host.Outcome State Fault Refusal :=
  let forwarded := s.forward { strobes := lines.strobes, bank := lines.bank, address := lines.address } lines.toMasks
  .next (if s.pathHeld then forwarded else ((forwarded.countSlot lines.toMasks).exitSelfRefresh).maskDevice)

/-- MODE_REGISTER_SET (R5 to R7). -/
def execModeRegisterSet (bank : BankId) (value : BitVec 13) (masks : Masks) (s : State) :
    Host.Outcome State Fault Refusal :=
  .next (s.takeSlot (selectedLines false false false bank value) masks fun t => t.setMode bank value)

/-- BURST_STOP (R12). -/
def execBurstStop (lines : AddressLines) (s : State) : Host.Outcome State Fault Refusal :=
  .next (s.takeSlot (selectedLines true true false lines.bank lines.address) lines.toMasks fun t => t.endAccess .stopped)

/-- NO_OPERATION: a burst in progress continues (R12). -/
def execNoOperation (lines : AddressLines) (s : State) : Host.Outcome State Fault Refusal :=
  .next (s.takeSlot (selectedLines true true true lines.bank lines.address) lines.toMasks id)

/-- DESELECT: a burst in progress continues (R12). -/
def execDeselect (lines : DeselectLines) (s : State) : Host.Outcome State Fault Refusal :=
  let strobes : Strobes := ⟨true, lines.rowStrobe, lines.columnStrobe, lines.writeEnable⟩
  .next (s.takeSlot { strobes := strobes, bank := lines.bank, address := lines.address } lines.toMasks id)

/-- CLOCK_SUSPEND: a slot with the clock enable low is forwarded and not counted (R9, log 15). -/
def execClockSuspend (lines : StrobeLines) (s : State) : Host.Outcome State Fault Refusal :=
  .next (s.forward { strobes := lines.strobes, clockEnable := false, bank := lines.bank, address := lines.address }
    lines.toMasks)

/-- BURST_WORD_TRANSFER (R11, R13, R14). -/
def execBurstWordTransfer (word : BusWord) (s : State) : Host.Outcome State Fault Refusal :=
  .next (s.transferWord word)

end Sys2Proof.Machine
end

