-- ==== Sys2Proof/Machine/SlotEvents.lean ====
section
/-! DEFINITION. The rows of the blade slots (05): presence, removal, identification, power-good, overcurrent, stop and
button. While the chassis reset line is asserted a line only takes its level (log 4); the expiry of a timer that is
not running does nothing (log 6). -/

namespace Sys2Proof.Machine

/-- PRESENCE_LINE_CHANGE (R71, R73). -/
def execPresenceLineChange (n : SlotId) (level : Bool) (s : State) : Host.Outcome State Fault Refusal :=
  .next (if s.chassisReset then s.updateSlot n fun r => { r with rawPresence := level }
    else (s.presenceLine n level).finishEvent)

/-- REMOVAL (R73, R74): the raw presence line falls. -/
def execRemoval (n : SlotId) (s : State) : Host.Outcome State Fault Refusal :=
  .next (if s.chassisReset then s.updateSlot n fun r => { r with rawPresence := false }
    else if (s.slot n).state.seated && (s.slot n).rawPresence then (s.removeBlade n).finishEvent
    else s.presenceLine n false)

/-- R72: the presence debounce timer expires. -/
def State.debouncePresence (s : State) (n : SlotId) : State :=
  if (s.slot n).rawPresence then s.seatBlade n else s.emptySlot n

/-- PRESENCE_DEBOUNCE_EXPIRY (R72, R75). -/
def execPresenceDebounceExpiry (n : SlotId) (s : State) : Host.Outcome State Fault Refusal :=
  .next (if (s.slot n).state = .settling && (s.slot n).presenceTimer.isSome then (s.debouncePresence n).finishEvent
    else s)

/-- R77: the identification timer expires in AUX_ON. -/
def State.identificationOver (s : State) (n : SlotId) : State :=
  if s.linkState (bladeEndpoint n) = .up then
    s.updateSlot n fun r => { r with identificationTimer := some identificationPeriod }
  else s.enterFault n .noLink

/-- IDENTIFICATION_TIMER_EXPIRY (R77). -/
def execIdentificationTimerExpiry (n : SlotId) (s : State) : Host.Outcome State Fault Refusal :=
  .next (if (s.slot n).state = .auxOn && (s.slot n).identificationTimer.isSome then (s.identificationOver n).finishEvent
    else s)

/-- POWER_GOOD_RISE (R83). -/
def execPowerGoodRise (n : SlotId) (s : State) : Host.Outcome State Fault Refusal :=
  let raised := s.updateSlot n fun r => { r with powerGood := true }
  .next (if !(s.slot n).powerGood && (s.slot n).state = .ramping then (raised.enterOn n).finishEvent else raised)

/-- RAMP_TIMER_EXPIRY (R83). -/
def execRampTimerExpiry (n : SlotId) (s : State) : Host.Outcome State Fault Refusal :=
  .next (if (s.slot n).state = .ramping && (s.slot n).rampTimer.isSome then (s.enterFault n .ramp).finishEvent else s)

/-- POWER_GOOD_FALL (R90): a loss of power in ON or STOPPING. -/
def execPowerGoodFall (n : SlotId) (s : State) : Host.Outcome State Fault Refusal :=
  let lowered := s.updateSlot n fun r => { r with powerGood := false }
  .next (if (s.slot n).powerGood && ((s.slot n).state = .on || (s.slot n).state = .stopping) then
      (lowered.enterFault n .powerLost).finishEvent
    else lowered)

/-- OVERCURRENT_RISE (R91); a fall of the line is only recorded (log 16). -/
def execOvercurrentRise (n : SlotId) (level : Bool) (s : State) : Host.Outcome State Fault Refusal :=
  let set := s.updateSlot n fun r => { r with overcurrent := level }
  .next (if level && !(s.slot n).overcurrent && s.powered n then (set.enterFault n .overcurrent).finishEvent else set)

/-- STOP_TIMER_EXPIRY (R87). -/
def execStopTimerExpiry (n : SlotId) (s : State) : Host.Outcome State Fault Refusal :=
  .next (if (s.slot n).state = .stopping && (s.slot n).stopTimer.isSome then
      (s.toStandby n .stopTimeout).finishEvent
    else s)

/-- R94: the raw button line changes. -/
def State.buttonLine (s : State) (n : SlotId) (level : Bool) : State :=
  s.updateSlot n fun r =>
    { r with rawButton := level,
             buttonTimer := if r.state.seated && r.rawButton != level then some r.debounce else r.buttonTimer }

/-- BUTTON_LINE_CHANGE (R94). -/
def execButtonLineChange (n : SlotId) (level : Bool) (s : State) : Host.Outcome State Fault Refusal :=
  .next (s.buttonLine n level)

/-- R95: the codes of the BUTTON detail's high byte. -/
inductive ButtonOutcome where
  | reported | powerRequested | stopRequested | noAction
  deriving DecidableEq, Repr

def ButtonOutcome.code : ButtonOutcome → Nat
  | .reported => 0
  | .powerRequested => 1
  | .stopRequested => 2
  | .noAction => 3

/-- R95: what an edge does, by the slot's action and state. -/
def SlotRecord.buttonOutcome (r : SlotRecord) : ButtonOutcome :=
  match r.buttonAction with
  | .report => .reported
  | .powerToggle =>
    match r.state with
    | .standby => .powerRequested
    | .on => .stopRequested
    | .empty | .settling | .auxOn | .queued | .ramping | .stopping | .faulted => .noAction

/-- The code of an edge. -/
def ButtonEdge.code : ButtonEdge → Nat
  | .press => 0
  | .release => 1

/-- R95: a button power-off, judged against the guard level with authority 2. -/
def State.buttonStop (s : State) (n : SlotId) : State :=
  if guardAuthority n s Origin.button.authority then s.gracefulStop n .button else s.appendRefusal n .button .level

/-- R95: a debounced edge that matches the slot's setting. -/
def State.buttonEdge (s : State) (n : SlotId) : State :=
  let outcome := (s.slot n).buttonOutcome
  let told := s.appendEvent (numberOf n) .button (bytePair outcome.code (s.slot n).buttonEdge.code)
  match outcome with
  | .powerRequested => told.raiseRequest n .button
  | .stopRequested => told.buttonStop n
  | .reported | .noAction => told

/-- R94, R95: the button debounce timer expires. -/
def State.debounceButton (s : State) (n : SlotId) : State :=
  let r := s.slot n
  let settled := s.updateSlot n fun r => { r with button := r.rawButton, buttonTimer := none }
  let edge : ButtonEdge := if r.rawButton then .press else .release
  if r.rawButton != r.button && edge = r.buttonEdge then settled.buttonEdge n else settled

/-- BUTTON_DEBOUNCE_EXPIRY (R94, R95). -/
def execButtonDebounceExpiry (n : SlotId) (s : State) : Host.Outcome State Fault Refusal :=
  .next (if (s.slot n).state.seated && (s.slot n).buttonTimer.isSome then (s.debounceButton n).finishEvent else s)

end Sys2Proof.Machine
end

