-- ==== Sys2Proof/Machine/SupplyEvents.lean ====
section
/-! DEFINITION. The rows of the Budget Unit (06): supply lines, their debounce, and the cap timer. -/

namespace Sys2Proof.Machine

/-- R102: a raw supply line takes a level. -/
def Supply.setLine (r : Supply) (line : SupplyLine) (level : Bool) : Supply :=
  match line with
  | .present => { r with rawPresent := level }
  | .ok => { r with rawOk := level }

/-- R102: the raw level of a line. -/
def Supply.rawLevel (r : Supply) : SupplyLine → Bool
  | .present => r.rawPresent
  | .ok => r.rawOk

/-- R102: a line's debounce timer. -/
def Supply.timer (r : Supply) : SupplyLine → Timer
  | .present => r.presentTimer
  | .ok => r.okTimer

/-- R102: a line's debounce timer is started or ended. -/
def Supply.setTimer (r : Supply) (line : SupplyLine) (t : Timer) : Supply :=
  match line with
  | .present => { r with presentTimer := t }
  | .ok => { r with okTimer := t }

/-- R102: the debounced level takes the raw level. -/
def Supply.debounce (r : Supply) (line : SupplyLine) : Supply :=
  match line with
  | .present => { r with present := r.rawPresent, presentTimer := none }
  | .ok => { r with ok := r.rawOk, okTimer := none }

/-- SUPPLY_LINE_CHANGE (R102). -/
def execSupplyLineChange (i : BayId) (line : SupplyLine) (level : Bool) (s : State) :
    Host.Outcome State Fault Refusal :=
  let set := s.updateSupply i fun r => r.setLine line level
  .next (if s.chassisReset || (s.supply i).rawLevel line = level then set
    else set.updateSupply i fun r => r.setTimer line (some supplyDebounce))

/-- R103: the presence notices of a change of state. -/
def State.supplyPresence (s : State) (i : BayId) (old new : SupplyState) : State :=
  if old = .absent then s.devicePresent (supplyEndpoint i)
  else if new = .absent then s.deviceAbsent (supplyEndpoint i)
  else s

/-- R103: a supply's state has changed. -/
def State.supplyChanged (s : State) (i : BayId) (old new : SupplyState) : State :=
  ((s.supplyPresence i old new).appendEvent (supplyEndpoint i).val .supply (bytePair old.code new.code)).markEvaluation

/-- R102, R103: a supply line's debounce timer expires. -/
def State.debounceSupply (s : State) (i : BayId) (line : SupplyLine) : State :=
  let old := (s.supply i).state
  let settled := s.updateSupply i fun r => r.debounce line
  let new := (settled.supply i).state
  if old = new then settled else (settled.supplyChanged i old new).finishEvent

/-- SUPPLY_DEBOUNCE_EXPIRY (R102, R103). -/
def execSupplyDebounceExpiry (i : BayId) (line : SupplyLine) (s : State) : Host.Outcome State Fault Refusal :=
  .next (if ((s.supply i).timer line).isSome then s.debounceSupply i line else s)

/-- CAP_TIMER_EXPIRY (R121, R123). -/
def execCapTimerExpiry (n : SlotId) (s : State) : Host.Outcome State Fault Refusal :=
  .next (if (s.budgetRecord n).capTimer.isSome then
      ((s.updateBudgetRecord n fun r => { r with capTimer := none }).shedForCap n).finishEvent
    else s)

end Sys2Proof.Machine
end

