-- ==== Sys2Proof/Machine/WindowCommands.lean ====
section
/-! DEFINITION. The taking of the command at the head of the intake queue (02 R23), one meaning per row of the command
list (R25): checks 1 to 4 by the Window Decoder, checks 5 to 7 and the work by the owner's function. A row whose command
is not at the head takes nothing (log 7). -/

namespace Sys2Proof.Machine

/-- R24: how a command is judged and carried out. -/
abbrev Judge := CommandRecord → State → Verdict × State

/-- R23: take the head of the intake queue if its code is the row's, complete it, and end the event. -/
def State.takeCommand (s : State) (row : Instr) (judge : Judge) : State :=
  match s.window.queue with
  | [] => s
  | r :: _ =>
    if commandOfCode r.code = row then
      let (verdict, t) := judge r s
      (t.complete r verdict).finishEvent
    else s

/-! ## SYNC and unknown codes (R24, R29) -/

/-- R29. -/
def judgeSync : Judge := judgeTarget noTarget presenceNotNeeded anyAuthority fun _ _ s => (.done, s)

/-- SYNC (R29). -/
def execSync (s : State) : Host.Outcome State Fault Refusal := .next (s.takeCommand .sync judgeSync)

/-- R24, check 1. -/
def judgeUnknown : Judge := fun _ s => (.unknown, s)

/-- UNKNOWN_COMMAND (R24): a code outside the command list. -/
def execUnknownCommand (s : State) : Host.Outcome State Fault Refusal :=
  .next (s.takeCommand .unknownCommand judgeUnknown)

/-! ## Slots (05) -/

/-- R79: POWER_ON. -/
def judgePowerOn : Judge := judgeTarget slotTarget slotPresent guardAuthority fun n _ s =>
  match s.powerChecks n with
  | some v => (v, s)
  | none => (.started, s.enterQueued n .processor)

/-- POWER_ON (R78, R79). -/
def execPowerOn (s : State) : Host.Outcome State Fault Refusal := .next (s.takeCommand .powerOn judgePowerOn)

/-- R84: POWER_OFF in a state that accepts it; mode 0 is GRACEFUL, 1 FORCED. -/
def State.powerOff (s : State) (n : SlotId) (forced : Bool) : Verdict × State :=
  match (s.slot n).state with
  | .queued => (.done, s.leaveQueue n)
  | .ramping => (.done, s.toStandby n .processor)
  | .on => if forced then (.done, s.toStandby n .processor) else (.started, s.gracefulStop n .processor)
  | .stopping => if forced then (.done, s.toStandby n .processor) else (.done, s)
  | .empty | .settling | .auxOn | .standby | .faulted => (.state, s)

/-- R84: the states in which POWER_OFF passes check 5. -/
def SlotState.acceptsPowerOff : SlotState → Bool
  | .queued | .ramping | .on | .stopping => true
  | .empty | .settling | .auxOn | .standby | .faulted => false

/-- R84: POWER_OFF. -/
def judgePowerOff : Judge := judgeTarget slotTarget slotPresent guardAuthority fun n r s =>
  if (s.slot n).state.acceptsPowerOff then
    match enumerated 2 r.a1 with
    | none => (.operand, s)
    | some mode => s.powerOff n (mode = 1)
  else (.state, s)

/-- POWER_OFF (R84). -/
def execPowerOff (s : State) : Host.Outcome State Fault Refusal := .next (s.takeCommand .powerOff judgePowerOff)

/-- R81: SET_GUARD. -/
def judgeSetGuard : Judge := judgeTarget slotTarget presenceNotNeeded zeroAuthority fun n r s =>
  match enumerated 4 r.a1 with
  | none => (.operand, s)
  | some level => (.done, s.updateSlot n fun q => { q with guardLevel := level.val })

/-- SET_GUARD (R81). -/
def execSetGuard (s : State) : Host.Outcome State Fault Refusal := .next (s.takeCommand .setGuard judgeSetGuard)

/-- R93: a slot leaves FAULTED. -/
def State.clearFault (s : State) (n : SlotId) : State :=
  if s.linkState (bladeEndpoint n) = .up then
    ((s.updateSlot n fun r => { r with state := .standby, fault := none }).syncBladePoll n).appendPower n .standby
      .processor
  else s.enterAuxOn n .processor

/-- R93: CLEAR_FAULT. -/
def judgeClearFault : Judge := judgeTarget slotTarget slotPresent anyAuthority fun n _ s =>
  if (s.slot n).state = .faulted then (.done, s.clearFault n) else (.state, s)

/-- CLEAR_FAULT (R93). -/
def execClearFault (s : State) : Host.Outcome State Fault Refusal := .next (s.takeCommand .clearFault judgeClearFault)

/-- R97: SET_SLOT_TIMING. -/
def judgeSetSlotTiming : Judge := judgeTarget slotTarget presenceNotNeeded anyAuthority fun n r s =>
  (.done, s.updateSlot n fun q =>
    { q with debounce := magnitude 5 200 r.a1, stopTimeout := magnitude 1 600 r.a2 })

/-- SET_SLOT_TIMING (R97). -/
def execSetSlotTiming (s : State) : Host.Outcome State Fault Refusal :=
  .next (s.takeCommand .setSlotTiming judgeSetSlotTiming)

/-- R96: SET_BUTTON. -/
def judgeSetButton : Judge := judgeTarget slotTarget presenceNotNeeded anyAuthority fun n r s =>
  match enumerated 2 r.a1, enumerated 2 r.a2 with
  | some edge, some action =>
    (.done, s.updateSlot n fun q =>
      { q with buttonEdge := if edge = 0 then .press else .release,
               buttonAction := if action = 0 then .report else .powerToggle })
  | _, _ => (.operand, s)

/-- SET_BUTTON (R96). -/
def execSetButton (s : State) : Host.Outcome State Fault Refusal := .next (s.takeCommand .setButton judgeSetButton)

/-! ## Budget (06) -/

/-- 2.8.5: the redundancy mode a code names. -/
def redundancyOf (code : Fin 3) : Redundancy :=
  match code with
  | 0 => .none
  | 1 => .nPlusOne
  | 2 => .feedSplit

/-- R107: SET_REDUNDANCY. -/
def judgeSetRedundancy : Judge := judgeTarget noTarget presenceNotNeeded zeroAuthority fun _ r s =>
  match enumerated 3 r.a1 with
  | none => (.operand, s)
  | some mode => (.done, (s.updateBudget fun b => { b with redundancy := redundancyOf mode }).markEvaluation)

/-- SET_REDUNDANCY (R107). -/
def execSetRedundancy (s : State) : Host.Outcome State Fault Refusal :=
  .next (s.takeCommand .setRedundancy judgeSetRedundancy)

/-- R109: SET_BASE_LOAD. -/
def judgeSetBaseLoad : Judge := judgeTarget noTarget presenceNotNeeded zeroAuthority fun _ r s =>
  (.done, (s.updateBudget fun b => { b with baseLoad := magnitude 0 4000 r.a1 }).markEvaluation)

/-- SET_BASE_LOAD (R109). -/
def execSetBaseLoad (s : State) : Host.Outcome State Fault Refusal :=
  .next (s.takeCommand .setBaseLoad judgeSetBaseLoad)

/-- R112: SET_PRIORITY. -/
def judgeSetPriority : Judge := judgeTarget slotTarget presenceNotNeeded anyAuthority fun n r s =>
  match enumerated 4 r.a1 with
  | none => (.operand, s)
  | some p =>
    (.done, ((s.updateBudgetRecord n fun q => { q with priority := p.val }).replaceInQueue n).markEvaluation)

/-- SET_PRIORITY (R112). -/
def execSetPriority (s : State) : Host.Outcome State Fault Refusal :=
  .next (s.takeCommand .setPriority judgeSetPriority)

/-- R125: the override an OVERRIDE_CLASS asks for, after clamping; none removes it. -/
def overrideOf (r : CommandRecord) : Option PowerClass :=
  if r.a1 = 0 then none else some ⟨magnitude 50 1500 r.a1, magnitude 20 1500 r.a2⟩

/-- R125: the class a slot has with an override set or removed. -/
def State.newClass (s : State) (n : SlotId) (o : Option PowerClass) : Option PowerClass :=
  match o with
  | some c => some c
  | none => s.suppliedClass n

/-- R125, check 5. -/
def State.overrideAllowed (s : State) (n : SlotId) (o : Option PowerClass) : Bool :=
  let b := s.budgetRecord n
  match s.newClass n o with
  | none => !s.powered n
  | some c =>
    match (s.slot n).state with
    | .ramping | .stopping => c.floor ≤ b.allocation && b.allocation ≤ c.max
    | .on => c.floor ≤ b.projected
    | .empty | .settling | .auxOn | .standby | .queued | .faulted => true

/-- R125: what an override changes for a powered blade; a maximum at or above the allocation leaves no pending class
max (log 21). -/
def State.adoptClass (s : State) (n : SlotId) (c : PowerClass) : State :=
  let b := s.budgetRecord n
  if (s.slot n).state = .on && c.max < b.allocation then
    let held := s.updateBudgetRecord n fun q =>
      { q with fixedClass := { q.fixedClass with floor := c.floor }, pendingClassMax := some c.max }
    if c.max < b.projected then held.setDecrease n c.max else held
  else s.updateBudgetRecord n fun q => { q with fixedClass := c, pendingClassMax := none }

/-- R125: an OVERRIDE_CLASS is carried out. -/
def State.overrideClass (s : State) (n : SlotId) (o : Option PowerClass) : State :=
  let stored := s.updateBudgetRecord n fun q => { q with override := o }
  (match s.newClass n o with
    | some c => if s.powered n then stored.adoptClass n c else stored
    | none => stored).markEvaluation

/-- R125: a floor above its maximum fails check 6. -/
def overrideRelation (o : Option PowerClass) : Bool :=
  match o with
  | none => true
  | some c => c.floor ≤ c.max

/-- R125: OVERRIDE_CLASS. -/
def judgeOverrideClass : Judge := judgeTarget slotTarget presenceNotNeeded zeroAuthority fun n r s =>
  let o := overrideOf r
  if !s.overrideAllowed n o then (.state, s)
  else if overrideRelation o then (.done, s.overrideClass n o)
  else (.operand, s)

/-- OVERRIDE_CLASS (R125). -/
def execOverrideClass (s : State) : Host.Outcome State Fault Refusal :=
  .next (s.takeCommand .overrideClass judgeOverrideClass)

/-- R105: SET_SUPPLY_RATING. -/
def judgeSetSupplyRating : Judge := judgeTarget supplyTarget presenceNotNeeded zeroAuthority fun i r s =>
  (.done, (s.updateSupply i fun q =>
    { q with override := if r.a1 = 0 then none else some (magnitude 200 3000 r.a1) }).markEvaluation)

/-- SET_SUPPLY_RATING (R105). -/
def execSetSupplyRating (s : State) : Host.Outcome State Fault Refusal :=
  .next (s.takeCommand .setSupplyRating judgeSetSupplyRating)

/-- R113: CANCEL_REQUEST. -/
def judgeCancelRequest : Judge := judgeTarget slotTarget slotPresent anyAuthority fun n _ s =>
  if (s.slot n).state = .queued then (.done, s.leaveQueue n) else (.state, s)

/-- CANCEL_REQUEST (R113). -/
def execCancelRequest (s : State) : Host.Outcome State Fault Refusal :=
  .next (s.takeCommand .cancelRequest judgeCancelRequest)

/-! ## Thermal (07) -/

/-- R20: the six points of a zone's staging area. -/
def State.stagedPoints (s : State) (z : ZoneId) : List (Word × Word) :=
  [0, 1, 2, 3, 4, 5].map fun k =>
    (s.shadowWord (256 + 12 * z.val + 2 * k), s.shadowWord (256 + 12 * z.val + 2 * k + 1))

/-- R135: the used points: those before the first unused one. -/
def usedPoints (points : List (Word × Word)) : List CurvePoint :=
  (points.takeWhile fun p => p.1 ≠ unusedPoint).map fun p => ⟨p.1.toInt, p.2.toNat⟩

/-- R135: each temperature greater, and no duty smaller, than the one before. -/
def risingCurve : List CurvePoint → Bool
  | p :: q :: rest => p.temperature < q.temperature && p.duty ≤ q.duty && risingCurve (q :: rest)
  | _ => true

/-- R135: the judgement of a staging area. -/
def curveAccepted (points : List (Word × Word)) : Bool :=
  let used := usedPoints points
  (points.drop used.length).all (fun p => p.1 = unusedPoint)
    && 2 ≤ used.length
    && used.all (fun p => -80 ≤ p.temperature && p.temperature ≤ 250 && p.duty ≤ 1000)
    && risingCurve used

/-- R135: LOAD_CURVE. -/
def judgeLoadCurve : Judge := judgeTarget zoneTarget presenceNotNeeded anyAuthority fun z _ s =>
  let points := s.stagedPoints z
  if curveAccepted points then (.done, s.updateZone z fun q => { q with curve := usedPoints points }) else (.curve, s)

/-- LOAD_CURVE (R20, R135). -/
def execLoadCurve (s : State) : Host.Outcome State Fault Refusal := .next (s.takeCommand .loadCurve judgeLoadCurve)

/-- R140: the seven limits of a SET_ZONE_LIMITS, clamped; the steps come in tens of per-mille. -/
def limitsOf (r : CommandRecord) : ZoneLimits :=
  { floor := magnitude 0 1000 r.a1
    critical := signedMagnitude (-80) 250 r.a2
    shutdown := signedMagnitude (-80) 250 r.a3
    stale := signedMagnitude (-80) 250 r.a4
    upStep := 10 * clampNat 1 100 (lowByte r.a5).toNat
    downStep := 10 * clampNat 1 100 (highByte r.a5).toNat
    grace := magnitude 10 300 r.a6 }

/-- R140: SET_ZONE_LIMITS. -/
def judgeSetZoneLimits : Judge := judgeTarget zoneTarget presenceNotNeeded anyAuthority fun z r s =>
  let limits := limitsOf r
  if limits.critical < limits.shutdown then
    (.done, (s.updateZone z fun q => { q with limits := limits }).reformDuty z)
  else (.operand, s)

/-- SET_ZONE_LIMITS (R139, R140). -/
def execSetZoneLimits (s : State) : Host.Outcome State Fault Refusal :=
  .next (s.takeCommand .setZoneLimits judgeSetZoneLimits)

/-- R138: SET_FAN_MODE. -/
def judgeSetFanMode : Judge := judgeTarget zoneTarget presenceNotNeeded anyAuthority fun z r s =>
  match enumerated 2 r.a1 with
  | none => (.operand, s)
  | some mode =>
    (.done, (s.updateZone z fun q =>
      { q with manual := decide (mode = 1), manualDuty := magnitude 0 1000 r.a2 }).reformDuty z)

/-- SET_FAN_MODE (R138, R139). -/
def execSetFanMode (s : State) : Host.Outcome State Fault Refusal := .next (s.takeCommand .setFanMode judgeSetFanMode)

/-- R131: SET_OFFSET. -/
def judgeSetOffset : Judge := judgeTarget sourceTarget presenceNotNeeded anyAuthority fun k r s =>
  (.done, s.updateReading k fun q => { q with offset := signedMagnitude (-20) 20 r.a1 })

/-- SET_OFFSET (R131). -/
def execSetOffset (s : State) : Host.Outcome State Fault Refusal := .next (s.takeCommand .setOffset judgeSetOffset)

/-! ## Uplinks (08) -/

/-- R158: SET_GROUP. -/
def judgeSetGroup : Judge := judgeTarget uplinkTarget presenceNotNeeded anyAuthority fun u r s =>
  match enumerated 4 r.a1 with
  | none => (.operand, s)
  | some group => (.done, ((s.updatePort u fun q => { q with group := group.val }).cancelFailbacks u).rework)

/-- SET_GROUP (R158). -/
def execSetGroup (s : State) : Host.Outcome State Fault Refusal := .next (s.takeCommand .setGroup judgeSetGroup)

/-- R160: the preferred uplink a number names; 0 is none. -/
def preferredOf (number : Fin 5) : Option UplinkId := oneBased 4 number.val

/-- R160: SET_PIN. -/
def judgeSetPin : Judge := judgeTarget slotTarget presenceNotNeeded anyAuthority fun n r s =>
  match enumerated 5 r.a1 with
  | none => (.operand, s)
  | some number =>
    (.done, (s.updatePin n fun q =>
      { q with preferred := preferredOf number, weight := magnitude 1 100 r.a2, failbackTimer := none }).rework)

/-- SET_PIN (R160). -/
def execSetPin (s : State) : Host.Outcome State Fault Refusal := .next (s.takeCommand .setPin judgeSetPin)

/-- R165: SET_FAILBACK. -/
def judgeSetFailback : Judge := judgeTarget noTarget presenceNotNeeded anyAuthority fun _ r s =>
  (.done, s.updateUplinks fun k => { k with failbackHold := magnitude 0 600 r.a1 })

/-- SET_FAILBACK (R165). -/
def execSetFailback (s : State) : Host.Outcome State Fault Refusal :=
  .next (s.takeCommand .setFailback judgeSetFailback)

/-! ## Inventory (04) -/

/-- R60: the pages a fetch would read, if check 5 passes. -/
def State.fetchable (s : State) (e : Endpoint) : Option Nat :=
  let r := s.inventoryRecord e
  match r.state, r.fields with
  | .valid, some i => if i.pageCount = 0 || !r.pages.isEmpty || s.linkState e = .lost then none else some i.pageCount
  | _, _ => none

/-- R60: FETCH_PAGES. -/
def judgeFetchPages : Judge := judgeTarget endpointTarget endpointPresent anyAuthority fun e _ s =>
  match s.fetchable e with
  | none => (.state, s)
  | some n => if s.inventory.free.length < n then (.noSpace, s) else (.started, s.startFetch e n)

/-- FETCH_PAGES (R60). -/
def execFetchPages (s : State) : Host.Outcome State Fault Refusal := .next (s.takeCommand .fetchPages judgeFetchPages)

/-- R63: DROP_PAGES. -/
def judgeDropPages : Judge := judgeTarget endpointTarget presenceNotNeeded anyAuthority fun e _ s =>
  (.done, (s.freePages e).endFetch e)

/-- DROP_PAGES (R63). -/
def execDropPages (s : State) : Host.Outcome State Fault Refusal := .next (s.takeCommand .dropPages judgeDropPages)

/-- R64: SELECT_VIEW. -/
def judgeSelectView : Judge := judgeTarget endpointTarget presenceNotNeeded anyAuthority fun e r s =>
  match oneBased 7 (lowOperand r.a1) with
  | none => (.operand, s)
  | some page => (.done, s.updateInventory fun i => { i with viewEndpoint := e, viewPage := numberOf page })

/-- SELECT_VIEW (R64). -/
def execSelectView (s : State) : Host.Outcome State Fault Refusal := .next (s.takeCommand .selectView judgeSelectView)

/-- R57: the states of a blade's slot in which REREAD is refused. -/
def SlotState.refusesReread : SlotState → Bool
  | .queued | .ramping | .on | .stopping => true
  | .empty | .settling | .auxOn | .standby | .faulted => false

/-- R57: check 5 of REREAD. -/
def State.rereadAllowed (s : State) (e : Endpoint) : Bool :=
  (s.inventoryRecord e).fetch.isNone &&
    match deviceOf e with
    | .blade n => !(s.slot n).state.refusesReread
    | .switch | .supply _ | .fanModule _ => true

/-- R57: the record enters READING; a VALID record keeps its fields, a READING one what it holds. -/
def InventoryRecord.reread (r : InventoryRecord) : InventoryRecord :=
  { r with state := .reading, retryMark := false, fields := r.shownFields }

/-- R57: REREAD. -/
def judgeReread : Judge := judgeTarget endpointTarget endpointPresent anyAuthority fun e _ s =>
  if s.rereadAllowed e then
    (.started, (s.setInventoryRecord e (s.inventoryRecord e).reread).requestIdent e)
  else (.state, s)

/-- REREAD (R57). -/
def execReread (s : State) : Host.Outcome State Fault Refusal := .next (s.takeCommand .reread judgeReread)

/-! ## Events (09) -/

/-- R176: the list after an acknowledgement; none where it is refused. -/
def acknowledge : List EventEntry → Nat → EventKind → Nat → Option (List EventEntry)
  | [], _, _, _ => none
  | e :: rest, source, kind, seen =>
    if e.matches source kind then
      if e.count < seen then none
      else if e.count = seen then some rest
      else some ({ e with count := e.count - seen } :: rest)
    else (acknowledge rest source kind seen).map (e :: ·)

/-- R176: ACK_EVENT. -/
def judgeAckEvent : Judge := judgeTarget eventSourceTarget presenceNotNeeded anyAuthority fun source r s =>
  match kindOfCode (lowOperand r.a1) with
  | none => (.operand, s)
  | some kind =>
    match acknowledge s.events.entries source kind (magnitude 1 255 r.a2) with
    | none => (.staleAck, s)
    | some entries => (.done, s.updateEvents fun l => { l with entries := entries })

/-- ACK_EVENT (R176). -/
def execAckEvent (s : State) : Host.Outcome State Fault Refusal := .next (s.takeCommand .ackEvent judgeAckEvent)

/-- R177: SET_ATTENTION. -/
def judgeSetAttention : Judge := judgeTarget noTarget presenceNotNeeded anyAuthority fun _ r s =>
  (.done, s.updateEvents fun l => { l with mask := r.a1.setWidth 13 })

/-- SET_ATTENTION (R177). -/
def execSetAttention (s : State) : Host.Outcome State Fault Refusal :=
  .next (s.takeCommand .setAttention judgeSetAttention)

end Sys2Proof.Machine
end

