-- ==== Sys2Proof/Machine/Dispatch.lean ====
section
/-! DEFINITION. One arm per command: a direct call of its meaning. -/

namespace Sys2Proof.Machine

/-- The effect of a command on everything but the queue of waiting commands. -/
def exec (i : Instr) (s : State) : Host.Outcome State Fault Refusal :=
  match i with
  | .activate bank row m => Sys2Proof.Machine.execActivate bank row m s
  | .read bank col ap m => Sys2Proof.Machine.execRead bank col ap m s
  | .write bank col ap m => Sys2Proof.Machine.execWrite bank col ap m s
  | .precharge bank m => Sys2Proof.Machine.execPrecharge bank m s
  | .prechargeAll m => Sys2Proof.Machine.execPrechargeAll m s
  | .autoRefresh m => Sys2Proof.Machine.execAutoRefresh m s
  | .selfRefreshEntry m => Sys2Proof.Machine.execSelfRefreshEntry m s
  | .selfRefreshExit m => Sys2Proof.Machine.execSelfRefreshExit m s
  | .modeRegisterSet bank v m => Sys2Proof.Machine.execModeRegisterSet bank v m s
  | .burstStop m => Sys2Proof.Machine.execBurstStop m s
  | .noOperation m => Sys2Proof.Machine.execNoOperation m s
  | .deselect m => Sys2Proof.Machine.execDeselect m s
  | .clockSuspend m => Sys2Proof.Machine.execClockSuspend m s
  | .burstWordTransfer d => Sys2Proof.Machine.execBurstWordTransfer d s
  | .sync => Sys2Proof.Machine.execSync s
  | .powerOn => Sys2Proof.Machine.execPowerOn s
  | .powerOff => Sys2Proof.Machine.execPowerOff s
  | .setGuard => Sys2Proof.Machine.execSetGuard s
  | .clearFault => Sys2Proof.Machine.execClearFault s
  | .setSlotTiming => Sys2Proof.Machine.execSetSlotTiming s
  | .setButton => Sys2Proof.Machine.execSetButton s
  | .setRedundancy => Sys2Proof.Machine.execSetRedundancy s
  | .setBaseLoad => Sys2Proof.Machine.execSetBaseLoad s
  | .setPriority => Sys2Proof.Machine.execSetPriority s
  | .overrideClass => Sys2Proof.Machine.execOverrideClass s
  | .setSupplyRating => Sys2Proof.Machine.execSetSupplyRating s
  | .cancelRequest => Sys2Proof.Machine.execCancelRequest s
  | .loadCurve => Sys2Proof.Machine.execLoadCurve s
  | .setZoneLimits => Sys2Proof.Machine.execSetZoneLimits s
  | .setFanMode => Sys2Proof.Machine.execSetFanMode s
  | .setOffset => Sys2Proof.Machine.execSetOffset s
  | .setGroup => Sys2Proof.Machine.execSetGroup s
  | .setPin => Sys2Proof.Machine.execSetPin s
  | .setFailback => Sys2Proof.Machine.execSetFailback s
  | .fetchPages => Sys2Proof.Machine.execFetchPages s
  | .dropPages => Sys2Proof.Machine.execDropPages s
  | .selectView => Sys2Proof.Machine.execSelectView s
  | .reread => Sys2Proof.Machine.execReread s
  | .ackEvent => Sys2Proof.Machine.execAckEvent s
  | .setAttention => Sys2Proof.Machine.execSetAttention s
  | .processorReset => Sys2Proof.Machine.execProcessorReset s
  | .processorResetRelease => Sys2Proof.Machine.execProcessorResetRelease s
  | .chassisReset p => Sys2Proof.Machine.execChassisReset p s
  | .answerReceived e b => Sys2Proof.Machine.execAnswerReceived e b s
  | .transactionTimeout => Sys2Proof.Machine.execTransactionTimeout s
  | .reconnectTimerExpiry e => Sys2Proof.Machine.execReconnectTimerExpiry e s
  | .pollTimerExpiry e => Sys2Proof.Machine.execPollTimerExpiry e s
  | .presenceLineChange n l => Sys2Proof.Machine.execPresenceLineChange n l s
  | .removal n => Sys2Proof.Machine.execRemoval n s
  | .presenceDebounceExpiry n => Sys2Proof.Machine.execPresenceDebounceExpiry n s
  | .identificationTimerExpiry n => Sys2Proof.Machine.execIdentificationTimerExpiry n s
  | .powerGoodRise n => Sys2Proof.Machine.execPowerGoodRise n s
  | .rampTimerExpiry n => Sys2Proof.Machine.execRampTimerExpiry n s
  | .powerGoodFall n => Sys2Proof.Machine.execPowerGoodFall n s
  | .overcurrentRise n l => Sys2Proof.Machine.execOvercurrentRise n l s
  | .stopTimerExpiry n => Sys2Proof.Machine.execStopTimerExpiry n s
  | .buttonLineChange n l => Sys2Proof.Machine.execButtonLineChange n l s
  | .buttonDebounceExpiry n => Sys2Proof.Machine.execButtonDebounceExpiry n s
  | .supplyLineChange bay k l => Sys2Proof.Machine.execSupplyLineChange bay k l s
  | .supplyDebounceExpiry bay k => Sys2Proof.Machine.execSupplyDebounceExpiry bay k s
  | .capTimerExpiry n => Sys2Proof.Machine.execCapTimerExpiry n s
  | .freshnessTimerExpiry r => Sys2Proof.Machine.execFreshnessTimerExpiry r s
  | .zoneUpdate z => Sys2Proof.Machine.execZoneUpdate z s
  | .tachPulse f => Sys2Proof.Machine.execTachPulse f s
  | .modulePresentLineChange z l => Sys2Proof.Machine.execModulePresentLineChange z l s
  | .moduleDebounceExpiry z => Sys2Proof.Machine.execModuleDebounceExpiry z s
  | .graceTimerExpiry z => Sys2Proof.Machine.execGraceTimerExpiry z s
  | .uplinkLinkChange u l => Sys2Proof.Machine.execUplinkLinkChange u l s
  | .farEndFaultChange u l => Sys2Proof.Machine.execFarEndFaultChange u l s
  | .speedLineChange u c => Sys2Proof.Machine.execSpeedLineChange u c s
  | .upHoldOffExpiry u => Sys2Proof.Machine.execUpHoldOffExpiry u s
  | .downHoldOffExpiry u => Sys2Proof.Machine.execDownHoldOffExpiry u s
  | .failbackTimerExpiry n => Sys2Proof.Machine.execFailbackTimerExpiry n s
  | .unknownCommand => Sys2Proof.Machine.execUnknownCommand s
  | .chassisResetRelease => Sys2Proof.Machine.execChassisResetRelease s
  | .requestFrameSent => Sys2Proof.Machine.execRequestFrameSent s

end Sys2Proof.Machine
end

