-- ==== Sys2Proof/Safety.lean ====
section
/-! DEFINITION. The terms statements about the EJ412 use: the parts of the state that only some rows may change, the
classes of rows, and the forms of the records that every step keeps. -/

namespace Sys2Proof.Machine

/-! ## Settings: what only the management processor's commands and the resets change -/

/-- The settings of a slot (R81, R96, R97). -/
structure SlotSettings where
  guardLevel   : Nat
  debounce     : Nat
  stopTimeout  : Nat
  buttonEdge   : ButtonEdge
  buttonAction : ButtonAction
  deriving DecidableEq, Repr

def SlotRecord.settings (r : SlotRecord) : SlotSettings :=
  ⟨r.guardLevel, r.debounce, r.stopTimeout, r.buttonEdge, r.buttonAction⟩

/-- The settings of a zone (R134, R138, R140). -/
structure ZoneSettings where
  manual     : Bool
  manualDuty : Nat
  curve      : List CurvePoint
  limits     : ZoneLimits
  deriving DecidableEq, Repr

def Zone.settings (r : Zone) : ZoneSettings := ⟨r.manual, r.manualDuty, r.curve, r.limits⟩

/-- Every setting of the block. -/
structure Settings where
  slots        : Vector SlotSettings 12
  redundancy   : Redundancy
  baseLoad     : Nat
  ratings      : Vector (Option Nat) 4
  priorities   : Vector Nat 12
  classes      : Vector (Option PowerClass) 12
  zones        : Vector ZoneSettings 3
  offsets      : Vector Int 15
  groups       : Vector Nat 4
  preferred    : Vector (Option UplinkId) 12
  weights      : Vector Nat 12
  failbackHold : Nat
  viewEndpoint : Endpoint
  viewPage     : Nat
  mask         : BitVec 13
  deriving DecidableEq, Repr

/-- The settings of a state. -/
def State.settings (s : State) : Settings where
  slots := s.slots.map SlotRecord.settings
  redundancy := s.budget.redundancy
  baseLoad := s.budget.baseLoad
  ratings := s.budget.supplies.map (·.override)
  priorities := s.budget.records.map (·.priority)
  classes := s.budget.records.map (·.override)
  zones := s.thermal.zones.map Zone.settings
  offsets := s.thermal.readings.map (·.offset)
  groups := s.uplinks.ports.map (·.group)
  preferred := s.uplinks.pins.map (·.preferred)
  weights := s.uplinks.pins.map (·.weight)
  failbackHold := s.uplinks.failbackHold
  viewEndpoint := s.inventory.viewEndpoint
  viewPage := s.inventory.viewPage
  mask := s.events.mask

/-- What the chassis side never touches by itself: the queue of commands, the reset lines, the straps, the Path Tracker,
the Window Decoder and the settings. -/
structure ProcessorSide where
  pending        : List Instr
  chassisReset   : Bool
  processorReset : Bool
  straps         : Straps
  path           : Path
  window         : Window
  settings       : Settings
  deriving DecidableEq, Repr

/-- The processor side of a state. -/
def State.processorSide (s : State) : ProcessorSide :=
  ⟨s.pending, s.chassisReset, s.processorReset, s.straps, s.path, s.window, s.settings⟩

/-- What the memory path never touches: everything but the Path Tracker, the Window Decoder and the Event List's
entries. -/
structure ChassisSide where
  pending        : List Instr
  chassisReset   : Bool
  processorReset : Bool
  straps         : Straps
  link           : LinkEngine
  inventory      : Inventory
  slots          : Vector SlotRecord 12
  budget         : Budget
  thermal        : Thermal
  uplinks        : Uplinks
  mask           : BitVec 13
  deriving DecidableEq, Repr

/-- The chassis side of a state. -/
def State.chassisSide (s : State) : ChassisSide :=
  ⟨s.pending, s.chassisReset, s.processorReset, s.straps, s.link, s.inventory, s.slots, s.budget, s.thermal, s.uplinks,
    s.events.mask⟩

/-! ## Classes of rows -/

/-- R2: a strobe line of the table: row strobe, column strobe and write enable with chip select low. -/
def strobesOf (row column write : Bool) : Strobes := ⟨false, row, column, write⟩

/-- R1, R2: the rows of the SDRAM command stream: every command line and the masks of their transfer slot. -/
def sdramSlot : Instr → Option (CommandLines × Masks)
  | .activate b r m => some (⟨strobesOf false true true, true, b, r⟩, m)
  | .read b c ap x => some (⟨strobesOf true false true, true, b, addressOf x.upper ap c⟩, x.toMasks)
  | .write b c ap x => some (⟨strobesOf true false false, true, b, addressOf x.upper ap c⟩, x.toMasks)
  | .precharge b x => some (⟨strobesOf false true false, true, b, addressOf x.upper false x.lower⟩, x.toMasks)
  | .prechargeAll x => some (⟨strobesOf false true false, true, x.bank, addressOf x.upper true x.lower⟩, x.toMasks)
  | .autoRefresh x => some (⟨strobesOf false false true, true, x.bank, x.address⟩, x.toMasks)
  | .selfRefreshEntry x => some (⟨strobesOf false false true, false, x.bank, x.address⟩, x.toMasks)
  | .selfRefreshExit x => some (⟨x.strobes, true, x.bank, x.address⟩, x.toMasks)
  | .modeRegisterSet b v m => some (⟨strobesOf false false false, true, b, v⟩, m)
  | .burstStop x => some (⟨strobesOf true true false, true, x.bank, x.address⟩, x.toMasks)
  | .noOperation x => some (⟨strobesOf true true true, true, x.bank, x.address⟩, x.toMasks)
  | .deselect x => some (⟨⟨true, x.rowStrobe, x.columnStrobe, x.writeEnable⟩, true, x.bank, x.address⟩, x.toMasks)
  | .clockSuspend x => some (⟨x.strobes, false, x.bank, x.address⟩, x.toMasks)
  | _ => none

/-- R8: the row that wakes the path. -/
def exitRow : Instr → Bool
  | .selfRefreshExit _ => true
  | _ => false

/-- R9: the row of a slot that counts toward nothing. -/
def clockLowRow : Instr → Bool
  | .clockSuspend _ => true
  | _ => false

/-- The rows that take the command at the head of the intake queue. -/
def commandRows : List Instr :=
  [.sync, .powerOn, .powerOff, .setGuard, .clearFault, .setSlotTiming, .setButton, .setRedundancy, .setBaseLoad,
    .setPriority, .overrideClass, .setSupplyRating, .cancelRequest, .loadCurve, .setZoneLimits, .setFanMode, .setOffset,
    .setGroup, .setPin, .setFailback, .fetchPages, .dropPages, .selectView, .reread, .ackEvent, .setAttention,
    .unknownCommand]

/-- The rows of the memory path: the SDRAM command stream and the data words. -/
def pathRow (c : Instr) : Bool :=
  (sdramSlot c).isSome || match c with
    | .burstWordTransfer _ => true
    | _ => false

/-- The four rows of the reset lines. -/
def resetRow : Instr → Bool
  | .processorReset | .processorResetRelease | .chassisReset _ | .chassisResetRelease => true
  | _ => false

/-- The rows of the chassis: lines, timers, answers, tachometers. -/
def chassisRow (c : Instr) : Bool := !(pathRow c || commandRows.contains c || resetRow c)

/-! ## Forms of the records -/

/-- R175: the count of a source and kind: that of their entry, 0 with none. -/
def eventCount (entries : List EventEntry) (source : Nat) (kind : EventKind) : Nat :=
  match entries.find? fun e => e.matches source kind with
  | none => 0
  | some e => e.count

/-- R175: the detail of a source and kind: that of their entry. -/
def eventDetail (entries : List EventEntry) (source : Nat) (kind : EventKind) : Option Word :=
  (entries.find? fun e => e.matches source kind).map (·.detail)

/-- R174: the sources a kind is appended from. -/
def kindSources : EventKind → List Nat
  | .link | .inventory => List.range 20
  | .power | .fault | .button => List.range' 1 12
  | .supply => List.range' 13 4
  | .fan | .thermal => List.range' 17 3
  | .uplink => List.range' 20 4
  | .budget => [24]
  | .path => [25]
  | .collision => [26]

/-- R174: no two entries with the same source and kind, each from a source of its kind, counts 1 to 255. -/
abbrev EventForm (s : State) : Prop :=
  (s.events.entries.Pairwise fun a b => ¬(a.source = b.source ∧ a.kind = b.kind)) ∧
  ∀ e ∈ s.events.entries, e.source ∈ kindSources e.kind ∧ 1 ≤ e.count ∧ e.count ≤ 255

/-- R59: the frames a record holds, in page order. -/
def InventoryRecord.frames (r : InventoryRecord) : List Nat := r.pages.map (·.frame)

/-- R59: the frames held by all endpoints. -/
def State.heldFrames (s : State) : List Nat := s.inventory.records.toList.flatMap InventoryRecord.frames

/-- R59: every frame is on the free list or held by one page, and none twice. -/
abbrev PagePool (s : State) : Prop := (s.inventory.free ++ s.heldFrames).Perm (List.range poolFrames)

/-- R43, R41, R38, R44: one pending entry per endpoint and kind, none for an ABSENT endpoint and only IDENT for a LOST
one; with the chassis reset released, the engine is busy while any entry is pending. -/
abbrev LinkForm (s : State) : Prop :=
  (s.link.table.Pairwise fun a b => ¬(a.endpoint = b.endpoint ∧ a.kind = b.kind)) ∧
  (∀ r ∈ s.link.table, s.linkState r.endpoint ≠ .absent ∧ (s.linkState r.endpoint = .lost → r.kind = .ident)) ∧
  (s.chassisReset = false → s.link.table ≠ [] → s.link.inFlight.isSome = true)

/-- R17, R18, R19, R21, R22: the shadow is in its canonical form within its 584 bytes; no command slot is queued or listed
twice; a queued code is not 0; the collision count is at most 255. -/
abbrev WindowForm (s : State) : Prop :=
  Memory.wf s.window.shadow = true ∧
  (∀ c ∈ s.window.shadow, c.1 < 2 * shadowColumns) ∧
  (s.window.queue.map (·.slot)).Nodup ∧
  (∀ r ∈ s.window.queue, r.code ≠ 0) ∧
  s.window.postList.Nodup ∧
  s.window.collisionCount ≤ 255

/-- R111, R112, R114: the admitted list holds the blades in RAMPING, ON and STOPPING, once each; the admission queue
holds the slots in QUEUED, once each, in the order of priority and arrival, no two of one arrival; while the chassis reset
line is asserted every slot is EMPTY (log 4). -/
abbrev AdmissionForm (s : State) : Prop :=
  s.budget.admitted.Nodup ∧
  (∀ n : SlotId, n ∈ s.budget.admitted ↔ s.powered n = true) ∧
  (s.budget.queue.map (·.slot)).Nodup ∧
  (∀ n : SlotId, n ∈ s.budget.queue.map (·.slot) ↔ (s.slot n).state = .queued) ∧
  (s.budget.queue.Pairwise fun a b => queuedBefore s.priorityOf a b = true) ∧
  (s.budget.queue.map (·.arrival)).Nodup ∧
  (∀ q ∈ s.budget.queue, q.arrival < s.budget.arrivals) ∧
  (s.chassisReset = true → ∀ n : SlotId, (s.slot n).state = .empty)

/-- R161, R163, R167: every blade's target rate is the one R167 gives for the records as they stand; a blade has an active
uplink only while ON, one that is UP and in the group of its preferred uplink; a failback timer runs only while the
preferred uplink is UP. -/
abbrev UplinkForm (s : State) : Prop :=
  (∀ n : SlotId, (s.pin n).rate = s.targetRate n) ∧
  (∀ (n : SlotId) (u : UplinkId), (s.pin n).active = some u →
    s.isOn n = true ∧ (s.port u).up = true ∧
      ∃ p : UplinkId, (s.pin n).preferred = some p ∧ (s.port u).group = (s.port p).group) ∧
  ∀ n : SlotId, (s.pin n).failbackTimer ≠ none →
    ∃ p : UplinkId, (s.pin n).preferred = some p ∧ (s.port p).up = true

/-- R134, R137, R143, R145, R150, R151: a zone's duty lies between its floor and 1000, and is 1000 while its temperature is
at or above t_crit or it has no OK fan; its curve is one LOAD_CURVE adopts; its fans are fitted exactly while its module
is present; the grace timer and the grace-expired condition stand only without a module, and not together; none of them stands while
the chassis reset line is asserted (log 4). -/
abbrev ZoneForm (s : State) : Prop :=
  (∀ z : ZoneId,
    (s.zone z).limits.floor ≤ (s.zone z).duty ∧ (s.zone z).duty ≤ 1000 ∧
    ((s.zone z).limits.critical ≤ (s.zone z).temperature ∨ s.okFans z = 0 → (s.zone z).duty = 1000) ∧
    (s.zone z).limits.critical < (s.zone z).limits.shutdown ∧
    2 ≤ (s.zone z).curve.length ∧ (s.zone z).curve.length ≤ 6 ∧
    (s.zone z).curve.Pairwise (fun p q => p.temperature < q.temperature ∧ p.duty ≤ q.duty) ∧
    (∀ p ∈ (s.zone z).curve, p.duty ≤ 1000) ∧
    (s.zone z).shutdownCount ≤ 3 ∧
    ((s.zone z).graceTimer ≠ none → (s.zone z).module = false ∧ (s.zone z).graceExpired = false) ∧
    ((s.zone z).graceExpired = true → (s.zone z).module = false) ∧
    (s.chassisReset = true → (s.zone z).module = false ∧ (s.zone z).moduleTimer = none ∧
      (s.zone z).graceTimer = none ∧ (s.zone z).graceExpired = false)) ∧
  ∀ f : FanId,
    ((s.fan f).state = .absent ↔ (s.zone (zoneOfFan f)).module = false) ∧
    (s.fan f).lowWindows ≤ 2 ∧ (s.fan f).goodWindows ≤ 2

/-- R51, R125: a class that an accepted identity page or an override can give. -/
abbrev PowerClass.lawful (c : PowerClass) : Prop := 20 ≤ c.floor ∧ c.floor ≤ c.max ∧ 50 ≤ c.max ∧ c.max ≤ 1500

/-- R110, R112, R121, R124, R125: a blade that is not powered has no allocation, no class in effect fixed and no cap field;
a powered one has a class floor that is not 0 and not above its class max, and an allocation not above that max; the cap
timer runs exactly while a decrease is pending, which only an ON blade has, to a target not below the class floor; a pending
class max is not below the floor; the classes that can be fixed are lawful, and priorities are at most 3. -/
abbrev BudgetForm (s : State) : Prop :=
  ∀ n : SlotId,
    (s.powered n = false → (s.budgetRecord n).allocation = 0 ∧ (s.budgetRecord n).fixedClass = ⟨0, 0⟩ ∧
      (s.budgetRecord n).confirmedCap = 0 ∧ (s.budgetRecord n).pendingClassMax = none) ∧
    (s.powered n = true → 0 < (s.budgetRecord n).fixedClass.floor ∧
      (s.budgetRecord n).fixedClass.floor ≤ (s.budgetRecord n).fixedClass.max ∧
      (s.budgetRecord n).allocation ≤ (s.budgetRecord n).fixedClass.max) ∧
    ((s.budgetRecord n).capTimer = none ↔ (s.budgetRecord n).capTarget = none) ∧
    (∀ target ∈ (s.budgetRecord n).capTarget, s.isOn n = true ∧ (s.budgetRecord n).fixedClass.floor ≤ target) ∧
    (∀ m ∈ (s.budgetRecord n).pendingClassMax, (s.budgetRecord n).fixedClass.floor ≤ m) ∧
    (∀ c ∈ (s.budgetRecord n).override, c.lawful) ∧ (∀ c ∈ s.suppliedClass n, c.lawful) ∧
    (s.budgetRecord n).priority ≤ 3

/-- R110, R121: a powered blade's allocation is not below its class floor, and a cap target is below the allocation. -/
abbrev AllocationForm (s : State) : Prop :=
  ∀ n : SlotId,
    (s.powered n = true → (s.budgetRecord n).fixedClass.floor ≤ (s.budgetRecord n).allocation) ∧
    ∀ target ∈ (s.budgetRecord n).capTarget, target < (s.budgetRecord n).allocation

/-- R121: no CAP in flight to a blade with a decrease pending carries watts below its target; the only one that can is of an
earlier decrease, sent before the blade was shed and admitted again (log 37). -/
abbrev CapsInFlightAreDue (s : State) : Prop :=
  ∀ q ∈ s.link.inFlight, q.kind = .cap → ∀ n : SlotId, q.endpoint = bladeEndpoint n →
    ∀ target ∈ (s.budgetRecord n).capTarget, target ≤ q.argument

/-- R16, R33: while a reset line is asserted, the path and the window stand in their initial state. -/
abbrev ResetHold (s : State) : Prop := s.pathHeld = true → s.path = s.path.initial ∧ s.window = {}

/-- R115: no input of the evaluation has changed since the latest evaluation. -/
abbrev EvaluationQuiet (s : State) : Prop := s.budget.evaluationDue = false

/-! ## Transfer slots -/

/-- R12: the rows that end an access of any bank. -/
def endsAccess : Instr → Bool
  | .read _ _ _ _ | .write _ _ _ _ | .burstStop _ | .prechargeAll _ | .selfRefreshEntry _ => true
  | _ => false

/-- The write without a burst after the slot of a row that starts none; a precharge ends it on its own bank (log 32). -/
def Path.looseWriteAfter (p : Path) (c : Instr) : Option LooseWrite :=
  (p.looseWrite.bind LooseWrite.advance).filter fun w =>
    !(endsAccess c || match c with
      | .precharge bank _ => bank = w.bank
      | _ => false)

/-- The read without a burst after the slot of a row that starts none (log 32). -/
def Path.looseReadAfter (p : Path) (c : Instr) : LooseRead :=
  if endsAccess c then p.looseRead.advance.finish else p.looseRead.advance

/-- R1, R13: the lines and the sampled masks after the transfer slot of a row in which no burst takes part. -/
def Path.slot (p : Path) (c : Instr) : Path :=
  match sdramSlot c with
  | none => p
  | some (lines, m) =>
    { p with
      driven := p.arrived
      arrived := { command := lines, masks := m }
      looseWrite := p.looseWriteAfter c
      looseRead := p.looseReadAfter c
      masks := { now := m, oneBack := p.masks.now, twoBack := p.masks.oneBack } }

/-- R1: the state after a transfer slot that is only forwarded. -/
def State.onlyForwarded (s : State) (c : Instr) : State :=
  match sdramSlot c with
  | none => s
  | some (lines, m) =>
    { s with path := { s.path with
      driven := s.path.arrived
      arrived := { command := lines, masks := m } } }

/-- The path decodes commands: no reset line holds it and it is awake (R8, R16). -/
abbrev State.decodes (s : State) : Prop := s.pathHeld = false ∧ s.path.state ≠ .sleep

/-- The path decodes commands and follows no burst. -/
abbrev State.idlePath (s : State) : Prop := s.decodes ∧ s.path.burst = none ∧ s.path.trailing = []

/-- The path decodes commands and follows one burst, with words left after this slot, and nothing of an earlier one. -/
abbrev State.oneBurst (s : State) (b : Burst) : Prop :=
  s.decodes ∧ s.path.burst = some b ∧ s.path.trailing = [] ∧ b.advance.remaining = true

/-- The path decodes commands and follows at most one burst, with words left after this slot, and nothing of an earlier
one. -/
abbrev State.atMostOneBurst (s : State) : Prop :=
  s.decodes ∧ s.path.trailing = [] ∧ ∀ b ∈ s.path.burst, b.advance.remaining = true

/-- R12, R14, R19: s once a command has ended its burst in the slot under way: an intake burst's posts take effect, the
auto-precharge flag closes the burst's bank, and the read words that take part and have not crossed remain. -/
def State.burstGone (s : State) : State :=
  match s.path.burst with
  | none => s
  | some b =>
    let told := if b.window = .intake then s.takePosts else s
    { told with path := { s.path with
      burst := none
      banks := if b.autoPrecharge then s.path.banks.set b.bank .idle else s.path.banks
      trailing := if b.direction = .read ∧ b.advance.cut.remaining = true then [b.advance.cut] else [] } }

/-- R13, R14: a word of a served read falls two counted slots after the one under way. -/
abbrev Burst.silences (b : Burst) : Prop :=
  (b.window = .status ∨ b.window = .catalogue) ∧ b.offset ≤ b.elapsed + 2 ∧
    ∀ l ∈ b.limit, b.elapsed + 2 < b.offset + l

/-- R4: a PATH entry with a detail, in the states that report. -/
def State.reportPath (s : State) (detail : Word) : State :=
  if s.path.state = .primed ∨ s.path.state = .ready ∨ s.path.state = .modeFault then s.appendEvent 25 .path detail else s

/-! ## The command list (R25) and the taking of a command (R23, R24) -/

/-- R25: the target classes. -/
inductive TargetClass where
  | none | slot | supply | zone | readingSource | uplink | endpoint | eventSource
  deriving DecidableEq, Repr

/-- R25: is a target index in the range of a class. -/
def TargetClass.inRange (c : TargetClass) (t : Nat) : Bool :=
  match c with
  | .none => true
  | .slot => 1 ≤ t && t ≤ 12
  | .supply => 1 ≤ t && t ≤ 4
  | .zone => 1 ≤ t && t ≤ 3
  | .readingSource => (1 ≤ t && t ≤ 12) || (17 ≤ t && t ≤ 19)
  | .uplink => 1 ≤ t && t ≤ 4
  | .endpoint => t ≤ 19
  | .eventSource => t ≤ 26

/-- R25: the required authority of a command. -/
inductive RequiredAuthority where
  | any | guard | zero
  deriving DecidableEq, Repr

/-- R25: a line of the command list. -/
structure ListedCommand where
  code      : Nat
  target    : TargetClass
  present   : Bool
  authority : RequiredAuthority
  deriving DecidableEq, Repr

/-- R25: the command list. -/
def commandList : List ListedCommand :=
  [⟨0x01, .none, false, .any⟩, ⟨0x10, .slot, true, .guard⟩, ⟨0x11, .slot, true, .guard⟩, ⟨0x12, .slot, false, .zero⟩,
    ⟨0x13, .slot, true, .any⟩, ⟨0x14, .slot, false, .any⟩, ⟨0x15, .slot, false, .any⟩, ⟨0x20, .none, false, .zero⟩,
    ⟨0x21, .none, false, .zero⟩, ⟨0x22, .slot, false, .any⟩, ⟨0x23, .slot, false, .zero⟩, ⟨0x24, .supply, false, .zero⟩,
    ⟨0x25, .slot, true, .any⟩, ⟨0x30, .zone, false, .any⟩, ⟨0x31, .zone, false, .any⟩, ⟨0x32, .zone, false, .any⟩,
    ⟨0x33, .readingSource, false, .any⟩, ⟨0x40, .uplink, false, .any⟩, ⟨0x41, .slot, false, .any⟩,
    ⟨0x42, .none, false, .any⟩, ⟨0x50, .endpoint, true, .any⟩, ⟨0x51, .endpoint, false, .any⟩,
    ⟨0x52, .endpoint, false, .any⟩, ⟨0x53, .endpoint, true, .any⟩, ⟨0x60, .eventSource, false, .any⟩,
    ⟨0x61, .none, false, .any⟩]

/-- R25: is the target of a class with an index in its range present. -/
def State.targetPresent (s : State) (c : TargetClass) (t : Nat) : Bool :=
  match c with
  | .slot => (s.slot (Fin.ofNat 12 (t - 1))).state != .empty && (s.slot (Fin.ofNat 12 (t - 1))).state != .settling
  | .endpoint => s.linkState (Fin.ofNat 20 t) != .absent
  | .none | .supply | .zone | .readingSource | .uplink | .eventSource => true

/-- R26: does check 4 pass for a processor command with an authority field. -/
def State.authorityPasses (s : State) (required : RequiredAuthority) (t field : Nat) : Bool :=
  match required with
  | .any => field ≤ 3
  | .zero => field = 0
  | .guard => field ≤ 3 && field ≤ (s.slot (Fin.ofNat 12 (t - 1))).guardLevel

/-- The command r stands at the head of the intake queue with a code, and the event before has ended (R115). -/
abbrev State.taking (s : State) (r : CommandRecord) (rest : List CommandRecord) (code : Nat) : Prop :=
  s.window.queue = r :: rest ∧ r.code.toNat = code ∧ EvaluationQuiet s

/-- R23: the command r is complete with a result and a detail word, and has left the queue. -/
def State.completed (s : State) (r : CommandRecord) (rest : List CommandRecord) (result : Nat) (detail : Word) : State :=
  { s with window := { s.window with
      completions := s.window.completions.set r.slot ⟨BitVec.ofNat 8 result, r.tag, detail⟩
      lastCompleted := some (r.slot, r.tag)
      queue := rest } }

/-- R24: a command carried out with DONE. -/
def State.done (s : State) (r : CommandRecord) (rest : List CommandRecord) : State := s.completed r rest 1 0

/-- R24: a command carried out with STARTED. -/
def State.started (s : State) (r : CommandRecord) (rest : List CommandRecord) : State := s.completed r rest 2 0

/-- R24: a command refused at a check with a result code: the detail word holds the check, origin 0 and the target. -/
def State.refusedAt (s : State) (r : CommandRecord) (rest : List CommandRecord) (check result : Nat) : State :=
  s.completed r rest result (BitVec.ofNat 8 (16 * check) ++ r.a0.extractLsb' 0 8)

/-- R25, R26: A0 names a target index, with an authority field no greater than 3. -/
abbrev CommandRecord.aims (r : CommandRecord) (target field : Nat) : Prop :=
  r.a0 = BitVec.ofNat 8 field ++ BitVec.ofNat 8 target ∧ target < 256 ∧ field ≤ 3

/-- R43, R45: an entry of an endpoint and kind is pending, or its transaction is in flight. -/
def State.asked (s : State) (e : Endpoint) (k : TransactionKind) : Prop :=
  (∃ q ∈ s.link.table, q.endpoint = e ∧ q.kind = k) ∨ ∃ t, s.link.inFlight = some t ∧ t.endpoint = e ∧ t.kind = k

/-- R43: an entry of an endpoint and kind is pending. -/
abbrev State.waits (s : State) (e : Endpoint) (k : TransactionKind) : Prop :=
  ∃ r ∈ s.link.table, r.endpoint = e ∧ r.kind = k

/-- R36, R47: q is in flight to e with its request sent, and e has not left since. -/
abbrev State.judging (s : State) (e : Endpoint) (q : Transaction) : Prop :=
  s.link.inFlight = some q ∧ q.endpoint = e ∧ q.timer ≠ none ∧ (s.linkRecord e).presenceCount = q.presenceCount

/-- The data of an answer: its bytes but the status and the check byte (03 section 3.2). -/
def answerData (bytes : List Byte) : List Byte := (bytes.drop 1).dropLast

/-- R36, R37, R169: the bytes are an answer that fails no test. -/
abbrev Transaction.succeeds (q : Transaction) (bytes : List Byte) : Prop :=
  byteSum bytes = 0 ∧ bytes.getD 0 0 = 0 ∧ bytes.length = answerLength q.kind q.endpoint + 2 ∧
    (q.kind = .pins → (answerData bytes).getD 0 0 = 12)

/-- R39: one more failure does not bring the count of e to 3. -/
abbrev State.spares (s : State) (e : Endpoint) : Prop := (s.linkRecord e).failures + 1 < 3

/-- R118, R124: the Budget Unit's records after a blade's allocation and cap fields are released. -/
def Budget.released (b : Budget) (n : SlotId) : Budget :=
  { b with
    records := b.records.set n { b.records[n] with
      allocation := 0, fixedClass := ⟨0, 0⟩, capTarget := none, confirmedCap := 0, pendingClassMax := none,
      capTimer := none }
    admitted := b.admitted.filter fun m => m ≠ n
    evaluationDue := true }

/-- R149: the Budget Unit's records with a blade's thermal flag clear. -/
def Budget.unflagged (b : Budget) (n : SlotId) : Budget :=
  { b with
    records := b.records.set n { b.records[n] with thermalFlag := false }
    evaluationDue := b.evaluationDue || b.records[n].thermalFlag }

/-! ## What an event leaves -/

/-- R90: a slot record in FAULTED. -/
def SlotRecord.faulted (r : SlotRecord) (reason : FaultReason) : SlotRecord :=
  { r with state := .faulted, fault := some reason, identificationTimer := none, rampTimer := none, stopTimer := none }

/-- R175: from s to u one entry of a source and kind has been appended, with a detail. -/
abbrev State.reports (s u : State) (source : Nat) (kind : EventKind) (detail : Nat) : Prop :=
  eventCount u.events.entries source kind = min 255 (eventCount s.events.entries source kind + 1) ∧
    eventDetail u.events.entries source kind = some (BitVec.ofNat 16 detail)

/-- R175: from s to u no entry of a source and kind has been appended. -/
abbrev State.reportsNothing (s u : State) (source : Nat) (kind : EventKind) : Prop :=
  eventCount u.events.entries source kind = eventCount s.events.entries source kind ∧
    eventDetail u.events.entries source kind = eventDetail s.events.entries source kind

/-- R118, R124, R149: the Budget Unit's records when a blade leaves its powered state, and ON if it was there. -/
def State.budgetWithout (s : State) (n : SlotId) : Budget :=
  if (s.slot n).state = .on then (s.budget.released n).unflagged n
  else if s.powered n then s.budget.released n else s.budget

/-- The blocks that an event of one slot leaves alone. -/
def State.slotFrame (s u : State) : Prop :=
  u.thermal = s.thermal ∧ u.inventory = s.inventory ∧ u.processorSide = s.processorSide

/-- R70, R90: u is s after its slot n, whose lines stand as in r, has entered FAULTED with a reason. -/
def State.faultsTo (s u : State) (n : SlotId) (r : SlotRecord) (reason : FaultReason) : Prop :=
  u.slots = s.slots.set n (r.faulted reason) ∧ u.budget = s.budgetWithout n ∧
  ((s.slot n).state = .on → (u.pin n).active = none) ∧
  u.events = ((s.appendEvent (n.val + 1) .power 0x0908).appendEvent (n.val + 1) .fault
    (BitVec.ofNat 16 (256 * (s.slot n).state.code + reason.code))).events ∧
  s.slotFrame u

/-- R161: an active uplink and failback timer that the selection rule gives a blade, from the timer it had. -/
def State.selects (s : State) (n : SlotId) (timer : Timer) (active : Option UplinkId) (after : Timer) : Prop :=
  let standsIn (p u : UplinkId) : Prop := u ≠ p ∧ (s.port u).up = true ∧ (s.port u).group = (s.port p).group
  if s.isOn n then
    match (s.pin n).preferred with
    | none => active = none ∧ after = timer
    | some p =>
      if timer = none ∧ (s.port p).up = true then active = some p ∧ after = none
      else if ∃ u, standsIn p u then
        after = timer ∧ ∃ u, active = some u ∧ standsIn p u ∧
          ∀ v, standsIn p v → (s.port v).capacity < (s.port u).capacity ∨
            (s.port v).capacity = (s.port u).capacity ∧ u ≤ v
      else if timer ≠ none then active = some p ∧ after = none
      else active = none ∧ after = none
  else active = none ∧ after = none

/-- R73, R74: u is s after the blade of slot n has been removed. -/
def State.removesTo (s u : State) (n : SlotId) : Prop :=
  let e := bladeEndpoint n
  let old := (s.slot n).state
  u.slots = s.slots.set n { s.slots[n] with
    state := .settling, rawPresence := false, presenceTimer := some s.slots[n].debounce, identificationTimer := none,
    rampTimer := none, stopTimer := none, buttonTimer := none, button := false, fault := none } ∧
  u.linkState e = .absent ∧
  (s.linkState e ≠ .absent →
    (u.linkRecord e).presenceCount = (s.linkRecord e).presenceCount + 1 ∧ ∀ q ∈ u.link.table, q.endpoint ≠ e) ∧
  u.inventory = { s.inventory with
    records := s.inventory.records.set e { s.inventory.records[e] with pages := [], fetch := none }
    free := s.inventory.free ++ s.inventory.records[e].frames } ∧
  u.thermal = { s.thermal with
    readings := s.thermal.readings.set (bladeSource n) { s.thermal.readings[bladeSource n] with
      value := 0, fresh := false, timer := none } } ∧
  u.budget = (if old = .queued then
      { s.budget with queue := s.budget.queue.filter fun q : QueueEntry => q.slot ≠ n, evaluationDue := true }
    else s.budgetWithout n) ∧
  (old = .on → (u.pin n).active = none) ∧
  u.events = (s.appendEvent (n.val + 1) .power 0x0801).events ∧ u.processorSide = s.processorSide

end Sys2Proof.Machine
end

