-- ==== Sys2Proof/Certificates/Slice0/Obligations.lean ====
section
/-! DEFINITION. The statements about the EJ412. A docstring says what its statement states, with the rules of spec/ it
comes from and the entries of the assumption log it rests on. -/

section

open Sys2Proof Sys2Proof.Machine

/-! ## The block as a whole -/

/-- With the command c at the front of the queue of waiting commands, step is exec of c on the state with the queue's
rest. With an empty queue the block idles: the model's choice (log 5). -/
def Obligations.StepTakesTheFrontCommand : Prop :=
  (∀ (c : Instr) (rest : List Instr) (s : State), s.pending = c :: rest → step s = exec c { s with pending := rest }) ∧
  ∀ s : State, s.pending = [] → step s = .next s

/-- For every command of the table and every state, exec answers a next state, and leaves the queue of waiting
commands as it is: no command of this block stops. -/
def Obligations.EveryCommandIsTaken : Prop :=
  ∀ (c : Instr) (s : State), ∃ t, exec c s = .next t ∧ t.pending = s.pending

/-- The rows of the chassis (lines, timers, answers, tachometers) leave alone every setting that only commands and
resets change (R64, R81, R96, R97, R105, R107, R109, R112, R125, R131, R134, R138, R140, R158, R160, R165, R177), the
path, the window, the reset lines, the straps and the queue of waiting commands. -/
def Obligations.ChassisRowsKeepTheSettings : Prop :=
  ∀ (c : Instr) (s t : State), chassisRow c = true → exec c s = .next t → t.processorSide = s.processorSide

/-- The SDRAM stream and its data words change nothing outside the path, the window and the Event List, and in the
Event List only entries of kind PATH and COLLISION: the entries of the other kinds stay the same list, with their
sources, counts and details. -/
def Obligations.PathRowsKeepTheChassis : Prop :=
  ∀ (c : Instr) (s t : State), pathRow c = true → exec c s = .next t →
    let other (e : EventEntry) : Bool := e.kind != .path && e.kind != .collision
    t.chassisSide = s.chassisSide ∧ t.events.entries.filter other = s.events.entries.filter other

/-- The rows that take the command at the head of the intake queue change neither the path nor a reset line nor the
straps, nor of the window the shadow, the post list, the posts-accepted count, the collision record and the latched
presence. -/
def Obligations.CommandRowsKeepThePath : Prop :=
  ∀ (c : Instr) (s t : State), c ∈ commandRows → exec c s = .next t →
    t.path = s.path ∧ t.straps = s.straps ∧ t.chassisReset = s.chassisReset ∧ t.processorReset = s.processorReset ∧
    t.window.shadow = s.window.shadow ∧ t.window.postList = s.window.postList ∧
    t.window.postsAccepted = s.window.postsAccepted ∧ t.window.collisionCount = s.window.collisionCount ∧
    t.window.collisionSlot = s.window.collisionSlot ∧ t.window.latchedPresence = s.window.latchedPresence

/-! ## What every step keeps -/

/-- R174: from every state whose Event List has no two entries of one source and kind, each from a source of its kind
with a count 1 to 255, every step gives such a state, with at most 93 entries. -/
def Obligations.EventListKeepsItsForm : Prop :=
  ∀ s t : State, EventForm s → step s = .next t → EventForm t ∧ t.events.entries.length ≤ 93

/-- R59: the free list and the pages held by the endpoint records are together the 48 frames, each once; every step
keeps this. -/
def Obligations.PagePoolIsKept : Prop :=
  ∀ s t : State, PagePool s → step s = .next t → PagePool t

/-- R38, R41, R43, R44: one pending entry per endpoint and kind, none for an ABSENT endpoint and only IDENT for a LOST
one; with the chassis reset released the engine is busy while an entry is pending (while it is asserted the engine is
held: log 4). Every step keeps this. -/
def Obligations.LinkTableKeepsItsForm : Prop :=
  ∀ s t : State, LinkForm s → step s = .next t → LinkForm t

/-- R17, R18, R19, R21, R22: the shadow stays in its canonical form within its 584 bytes, no command slot is queued or
listed twice, no queued code is 0 and the collision count is at most 255; every step keeps this. -/
def Obligations.WindowKeepsItsForm : Prop :=
  ∀ s t : State, WindowForm s → step s = .next t → WindowForm t

/-- R111, R112, R114: the admitted list holds exactly the blades in RAMPING, ON and STOPPING, once each; the admission
queue holds exactly the QUEUED slots, once each, by priority and arrival, no two of one arrival; with the chassis
reset line asserted every slot is EMPTY (the model's reading of a held line: log 4). Every step keeps this. -/
def Obligations.AdmissionFollowsTheSlots : Prop :=
  ∀ s t : State, AdmissionForm s → step s = .next t → AdmissionForm t

/-- R161, R163, R167: every target rate is the one the rate law gives; an active uplink belongs to an ON blade, is UP
and in the group of its preferred uplink; a failback timer runs only while the preferred uplink is UP. Every step from
a state that also has the admission form keeps this. -/
def Obligations.UplinksKeepTheirForm : Prop :=
  ∀ s t : State, AdmissionForm s → UplinkForm s → step s = .next t → UplinkForm t

/-- R16, R33: while a reset line is asserted the path and the window stand in their initial state (the model's reading
of a held line: log 4, log 28); every step keeps this. -/
def Obligations.ResetLineHolds : Prop :=
  ∀ s t : State, ResetHold s → step s = .next t → ResetHold t

/-- R134, R137, R143, R145, R150, R151: a zone's duty lies between its floor and 1000, and is 1000 while its
temperature is at or above t_crit or it has no OK fan; t_crit is below t_shut; the curve has 2 to 6 points of rising
temperature and never falling duty; fans are fitted exactly while the module is present; the grace timer and the
grace-expired condition stand only without a module; counts stay in range; with the chassis reset line asserted there
is no module and no module or grace timer (the model's reading of a held line: log 4). Every step keeps this. -/
def Obligations.ZonesKeepTheirForm : Prop :=
  ∀ s t : State, ZoneForm s → step s = .next t → ZoneForm t

/-- R110, R112, R121, R124: a blade that is not powered has allocation 0, no class fixed, confirmed cap 0 and no
pending class max; a powered one has a class floor that is not 0 and not above its class max, and an allocation of at
most the class max; the cap timer runs exactly while a decrease is pending, which only an ON blade has, to a target
not below the class floor; a pending class max is not below it either; every class an override or a record gives is
one R51 or R125 admits, and priorities are at most 3. Every step from a state that also has the admission form keeps
this. R110, R121: where, besides, no allocation of a powered blade is below its class floor, every cap target is below
the allocation, and no CAP in flight to a blade with a decrease pending carries watts below its target, the step also
keeps the first two; the third is a hypothesis because a CAP of an earlier decrease may still be in flight (log 37).
-/
def Obligations.CapRecordsFollowTheSlots : Prop :=
  ∀ s t : State, AdmissionForm s → BudgetForm s → step s = .next t →
    BudgetForm t ∧ (AllocationForm s → CapsInFlightAreDue s → AllocationForm t)

/-- The reset state, with the levels log 1 to 3 choose, has every form that the statements above say each step keeps.
-/
def Obligations.FormsHoldAtReset : Prop :=
  EventForm State.reset ∧ PagePool State.reset ∧ LinkForm State.reset ∧ WindowForm State.reset ∧
  AdmissionForm State.reset ∧ UplinkForm State.reset ∧ ResetHold State.reset ∧
  ZoneForm State.reset ∧ BudgetForm State.reset ∧ AllocationForm State.reset ∧ EvaluationQuiet State.reset

/-! ## The evaluation -/

/-- R117, R118, R120: after an evaluation of a state with the admission form and the form of the cap records (with it
priorities at most 3, R112), the projected headroom is not negative or no blade is powered, and an evaluation that
admits a blade leaves the commitment, the new allocation included, within the capacity. -/
def Obligations.EvaluationCoversTheDeficit : Prop :=
  ∀ (s : State) (n : SlotId), AdmissionForm s → BudgetForm s →
    (0 ≤ s.evaluate.projectedHeadroom ∨ s.evaluate.powered n = false) ∧
    (s.powered n = false → s.evaluate.powered n = true → s.evaluate.commitment ≤ s.evaluate.capacity)

/-- R115: from a state with the admission form, evaluating while an input has changed ends by itself, so the model's
bound of 64 evaluations cuts none off (log 9), and no step leaves an evaluation due. -/
def Obligations.EvaluationsComeToAnEnd : Prop :=
  ∀ s t : State,
    (AdmissionForm s → (State.evaluateWhileDue evaluationBound s).budget.evaluationDue = false) ∧
    (EvaluationQuiet s → step s = .next t → EvaluationQuiet t)

/-! ## The memory path -/

/-- R1, R2, R13, R14, R16: every command line that arrives in one slot is driven on in the next, strobes, clock
enable, bank and address alike, and the lines of each row are those R2's table decodes to it. The masks sent to the
device are both high where a word of a served read falls two counted slots later, of the burst or of one that still
has words to cross (log 12), and else the processor's. While a reset line is asserted (log 4) a slot is forwarded and
changes nothing else. Rows are transfer slots by log 10. -/
def Obligations.SlotsAreForwarded : Prop :=
  ∀ (c : Instr) (lines : CommandLines) (m : Masks) (s : State), sdramSlot c = some (lines, m) →
    (∃ t, exec c s = .next t ∧ t.path.driven = s.path.arrived ∧ t.path.arrived.command = lines ∧
      (let counted := s.pathHeld = false ∧ clockLowRow c = false ∧ (s.path.state ≠ .sleep ∨ exitRow c = true)
       let silenced := ∃ b ∈ t.path.trailing ++ t.path.burst.toList, b.silences
       t.path.arrived.masks = if counted ∧ silenced then ⟨true, true⟩ else m)) ∧
    (s.pathHeld = true → exec c s = .next (s.onlyForwarded c)) ∧
    decodeLines (!clockLowRow c) (exitRow c) lines m = c

/-- With no burst under way, an activate opens its row, with PATH OPEN_ACTIVATE on an ACTIVE bank in a reporting
state; a precharge closes its bank; a no-operation, a deselect and a burst stop only pass. A slot with the clock
enable low is forwarded and counts toward nothing, a burst in progress or not (log 15). Everything else stands; an
access without a burst runs on or ends by log 32. -/
def Obligations.BanksOpenAndClose : Prop :=
  ∀ (s : State) (bank : BankId) (row : BitVec 13) (m : Masks) (p : PrechargeLines) (a : AddressLines)
    (d : DeselectLines) (k : StrobeLines),
    (s.idlePath →
      exec (.activate bank row m) s = .next
        (let told := if s.path.banks[bank] = .idle then s else s.reportPath 1
         { told with path := { s.path.slot (.activate bank row m) with banks := s.path.banks.set bank (.active row) } }) ∧
      exec (.precharge bank p) s = .next
        { s with path := { s.path.slot (.precharge bank p) with banks := s.path.banks.set bank .idle } } ∧
      exec (.noOperation a) s = .next { s with path := s.path.slot (.noOperation a) } ∧
      exec (.deselect d) s = .next { s with path := s.path.slot (.deselect d) } ∧
      exec (.burstStop a) s = .next { s with path := s.path.slot (.burstStop a) }) ∧
    exec (.clockSuspend k) s = .next (s.onlyForwarded (.clockSuspend k))

/-- With no burst under way: precharge-all moves UNINIT to PRIMED and closes the banks; an auto refresh counts in
PRIMED, holds at 2, and with a valid mode seen makes the path READY; it is an anomaly while a bank is ACTIVE. A mode
register set replaces the mode in every state, reports OPEN_MODE and MODE_INVALID, sets the mode-seen condition in
PRIMED, and moves READY and MODE_FAULT by the mode's validity. Everything else stands; an access without a burst runs
on or ends by log 32. -/
def Obligations.ReadinessFollowsTheModes : Prop :=
  ∀ (s : State) (bank : BankId) (value : BitVec 13) (m : Masks) (p : PrechargeAllLines) (a : AddressLines),
    s.idlePath →
    exec (.prechargeAll p) s = .next
      { s with path := { s.path.slot (.prechargeAll p) with
          banks := Vector.replicate 4 .idle
          state := if s.path.state = .uninit then .primed else s.path.state
          refreshCount := if s.path.state = .uninit then 0 else s.path.refreshCount
          modeSeen := if s.path.state = .uninit then false else s.path.modeSeen } } ∧
    exec (.autoRefresh a) s = .next
      (let told := if ∃ bank : BankId, s.path.banks[bank] ≠ .idle then s.reportPath 3 else s
       { told with path := { s.path.slot (.autoRefresh a) with
           refreshCount := if s.path.state = .primed then min 2 (s.path.refreshCount + 1) else s.path.refreshCount
           state := if s.path.state = .primed ∧ 1 ≤ s.path.refreshCount ∧ s.path.modeSeen
             then .ready else s.path.state } }) ∧
    (s.window.postList = [] →
      exec (.modeRegisterSet bank value m) s = .next
        (let mode := decodeMode bank value
         let valid := mode.isValid
         let open' := if ∃ b : BankId, s.path.banks[b] ≠ .idle then s.reportPath 4 else s
         let told := if valid then open' else open'.reportPath 5
         { told with path := { s.path.slot (.modeRegisterSet bank value m) with
             mode := mode
             modeSeen := if s.path.state = .primed then valid else s.path.modeSeen
             state := match s.path.state with
               | .primed => if s.path.refreshCount = 2 ∧ valid then .ready else .primed
               | .ready => if valid then .ready else .modeFault
               | .modeFault => if valid then .ready else .modeFault
               | .uninit => .uninit
               | .sleep => .sleep } }))

/-- R5's table: every mode the table admits is decoded from the lines that spell it on bank address 0, whatever the
three lines above the write-burst-mode field hold. -/
def Obligations.ModeFieldsAreReadBack : Prop :=
  ∀ (m : ModeFields) (upper : BitVec 3), ¬(m.length = .fullRow ∧ m.type = .interleaved) →
    decodeMode 0 (upper ++ BitVec.ofNat 10 m.lines) = .valid m

/-- R8: in READY with no burst a self-refresh entry closes the banks and sleeps, with OPEN_REFRESH if a bank was
ACTIVE; asleep every row but the exit is only forwarded (the model's reading: log 14); the exit closes the banks and
wakes into READY. An access without a burst ends at the entry (log 32). -/
def Obligations.SelfRefreshSleepsAndWakes : Prop :=
  ∀ (s : State) (a : AddressLines) (k : StrobeLines) (c : Instr),
    (s.idlePath → s.path.state = .ready → s.window.postList = [] →
      exec (.selfRefreshEntry a) s = .next
        (let told := if ∃ b : BankId, s.path.banks[b] ≠ .idle then s.reportPath 3 else s
         { told with path := { s.path.slot (.selfRefreshEntry a) with
             banks := Vector.replicate 4 .idle
             state := .sleep } })) ∧
    (s.path.state = .sleep → (sdramSlot c).isSome = true → exitRow c = false → exec c s = .next (s.onlyForwarded c)) ∧
    (s.pathHeld = false → s.path.state = .sleep → s.path.burst = none → s.path.trailing = [] →
      exec (.selfRefreshExit k) s = .next
        { s with path := { s.path.slot (.selfRefreshExit k) with
            banks := Vector.replicate 4 .idle
            state := .ready } })

/-- R10, R12: a read or write first ends a burst under way, as interrupted, whose auto-precharge flag closes its bank
(log 12 for its read words still to cross). Then, to an ACTIVE bank under a valid mode, it starts the burst that the
mode, the command and the bank's row give, with the snapshot of a served row; to an IDLE bank, a bank just closed
among them, it is an IDLE_ACCESS anomaly; with no valid mode its auto-precharge closes the bank at once. A write or
read that starts no burst is recorded for as long as its words can cross (R1): the model's choice (log 32). -/
def Obligations.AccessStartsABurst : Prop :=
  ∀ (s : State) (direction : Direction) (bank : BankId) (row : BitVec 13) (mode : ModeFields) (column : BitVec 10)
    (ap : Bool) (x : AccessLines), s.atMostOneBurst → ∃ t,
    exec (match direction with | .read => .read bank column ap x | .write => .write bank column ap x) s = .next t ∧
    (let e := s.burstGone
     t.path.trailing = e.path.trailing ∧
     let loose (words : Option Nat) : Option LooseWrite :=
       if direction = .write then some { bank := bank, left := words } else none
     let readOver := s.path.looseRead.advance.finish
     (e.path.banks[bank] = .idle → t.path.burst = none ∧ t.path.banks = e.path.banks ∧
       t.path.looseRead = (if direction = .read ∧ (e.path.mode.isValid = false ∨ e.path.state = .uninit)
         then .running else readOver) ∧
       (e.path.mode.isValid = false → t.path.looseWrite = loose none) ∧
       (e.path.mode = .valid mode →
         t.path.looseWrite = loose (if mode.singleWrite then some 1 else mode.length.words)) ∧
       t.events = (e.reportPath 2).events ∧ t.window = e.window) ∧
     (e.path.banks[bank] = .active row → e.path.mode.isValid = false → t.path.burst = none ∧
       t.path.looseWrite = loose none ∧ t.path.looseRead = (if direction = .read then .running else readOver) ∧
       t.path.banks = (if ap then e.path.banks.set bank .idle else e.path.banks) ∧ t.events = e.events ∧
       t.window = e.window) ∧
     (e.path.banks[bank] = .active row → e.path.mode = .valid mode →
       let window := e.windowRow bank row direction
       let length := if direction = .write ∧ mode.singleWrite then BurstLength.one else mode.length
       t.path.burst = some {
         bank := bank, row := row, start := column, direction := direction, length := length, type := mode.type,
         latency := mode.latency.slots, autoPrecharge := ap, window := window, elapsed := 0, next := 0,
         limit := length.words, columns := [],
         snapshot := if window = .status then e.statusRow else if window = .catalogue then e.catalogueRow else [] } ∧
       t.path.looseWrite = none ∧ t.path.looseRead = readOver ∧ t.path.banks = e.path.banks ∧ t.path.state = e.path.state ∧
       t.path.mode = e.path.mode ∧ t.events = e.events ∧
       t.window = if window = .intake then { e.window with postList := [] } else e.window))

/-- A write to row 256 times the base strap of the window bank is the intake row, a read of the next row the status
row and of the one after the catalogue row, each only in READY. -/
def Obligations.WindowRowsAreTheStraps : Prop :=
  ∀ (s : State) (bank : BankId) (row : BitVec 13) (direction : Direction),
    let base := 256 * s.straps.windowBase.val
    let decoded := s.path.state = .ready ∧ bank = s.straps.windowBank
    (s.windowRow bank row direction = .intake ↔ decoded ∧ direction = .write ∧ row.toNat = base) ∧
    (s.windowRow bank row direction = .status ↔ decoded ∧ direction = .read ∧ row.toNat = base + 1) ∧
    (s.windowRow bank row direction = .catalogue ↔ decoded ∧ direction = .read ∧ row.toNat = base + 2)

/-- R8, R12, R14, R19, R32: a burst stop, a precharge of the burst's bank, a precharge-all and a self-refresh entry
end the burst; a precharge of another bank, an activate, an auto refresh, a no-operation and a deselect let it run; a
mode register set that leaves READY ends the service of a window burst. A burst completes with its last word, with the
slot or with the word that crosses in it. An ended intake burst's posts take effect, and the auto-precharge flag
closes the burst's bank. Trailing read words follow log 12, counted slots log 10; the last word and the end it brings
come after the command of its slot: the model's choice (log 42). -/
def Obligations.BurstsEndAndRunOn : Prop :=
  ∀ (s : State) (b : Burst) (m : Masks) (c : Instr) (bank : BankId) (row value : BitVec 13) (p : PrechargeLines)
    (q : PrechargeAllLines) (a : AddressLines) (d : DeselectLines),
    (s.oneBurst b →
      (let e := s.burstGone
       ((c = .burstStop a ∨ c = .precharge b.bank p ∨ c = .prechargeAll q) →
         ∃ t, exec c s = .next t ∧ t.path.burst = none ∧ t.window = e.window ∧ t.events = e.events ∧
           t.path.trailing = e.path.trailing ∧
           t.path.banks = (match c with
             | .burstStop _ => e.path.banks
             | .precharge _ _ => s.path.banks.set b.bank .idle
             | _ => Vector.replicate 4 .idle)) ∧
       (s.path.state = .ready → ∃ t, exec (.selfRefreshEntry a) s = .next t ∧ t.path.burst = none ∧
         t.path.state = .sleep ∧ t.path.banks = Vector.replicate 4 .idle ∧
         t.path.trailing = e.path.trailing.map (fun r => { r with window := .outside }) ∧
         t.window = { e.window with postList := [] } ∧
         t.events = (if ∃ k : BankId, e.path.banks[k] ≠ .idle then e.reportPath 3 else e).events)) ∧
      ((bank ≠ b.bank ∧ c = .precharge bank p ∨ c = .activate bank row m ∨ c = .autoRefresh a ∨ c = .noOperation a ∨
          c = .deselect d ∨
          c = .modeRegisterSet bank value m ∧ ((decodeMode bank value).isValid = true ∨ s.path.state ≠ .ready)) →
        ∃ t, exec c s = .next t ∧ t.path.burst = some b.advance ∧ t.window = s.window) ∧
      (s.path.state = .ready → (decodeMode bank value).isValid = false →
        ∃ t, exec (.modeRegisterSet bank value m) s = .next t ∧
          t.path.burst = some { b.advance with window := .outside } ∧ t.path.state = .modeFault ∧
          t.path.mode = decodeMode bank value ∧ t.window = { s.window with postList := [] })) ∧
    (s.decodes → s.path.burst = some b → s.path.trailing = [] → b.advance.remaining = false →
      c = .burstStop a ∨ c = .noOperation a ∨ c = .deselect d →
      ∃ t, exec c s = .next t ∧ t.path.burst = none ∧ t.path.trailing = [] ∧ t.window = s.burstGone.window ∧
        t.events = s.burstGone.events ∧ t.path.banks = s.burstGone.path.banks)

/-- R11: word k of a burst of length B from start column s lies in the aligned block of s, at (s mod B + k) mod B in
it for a sequential burst and at (s mod B) XOR k for an interleaved one, and no two words share a column; a full-row
word lies at (s + k) mod 1024. -/
def Obligations.ColumnsFollowTheMode : Prop :=
  ∀ (length : BurstLength) (type : BurstType) (start : BitVec 10) (k j b : Nat),
    (length.words = none → wordColumn length type start.toNat k = (start.toNat + k) % 1024) ∧
    (length.words = some b → k < b →
      wordColumn length type start.toNat k / b = start.toNat / b ∧
      wordColumn length type start.toNat k % b =
        (match type with
          | .sequential => (start.toNat % b + k) % b
          | .interleaved => start.toNat % b ^^^ k) ∧
      wordColumn length type start.toNat k < 1024 ∧
      (j < b → j ≠ k → wordColumn length type start.toNat j ≠ wordColumn length type start.toNat k))

/-- The word of a burst due in its own slot, the last word of a burst among them. An intake word sets the driven lanes
of its shadow column and enters its command slot in the post list when its high lane was written; a word with both
lanes masked does neither. A word of a served read comes from the burst's snapshot, and reading the presence column
latches it. R1: a write word is driven whole toward the SDRAM device, and a read word's unmasked lanes toward the
processor. The row names the direction its word travels in (log 10), and the word reaches only bursts of that
direction: a write word leaves an ended read's words in place, and a read word the write burst's. A word of no burst,
and any word while the path is held or asleep, is driven on whole in its direction, whatever masks were sampled: the
model's choice beside R13 (log 32). A word in a slot of a write without a burst is that write's, and a second one in
the slot waits for the next (log 10); while words of a read without a burst can cross, a read word that no burst
awaits in the slot is one of them (log 32). A word given after a clock-low slot is read by log 15. The word comes
after the command of its slot, and so does the end that a last word brings: the model's choice (log 42). Word timing
and masks are read by log 11 and log 13. -/
def Obligations.WordsCrossTheWindow : Prop :=
  ∀ (s : State) (b : Burst) (word : BusWord) (address : Nat) (l : LooseWrite),
    let data := word.data
    let driven (p : Path) : Path := { p with arrived := match word.direction with
      | .read => { p.arrived with readData := ⟨some (lowByte data), some (highByte data)⟩ }
      | .write => { p.arrived with writeData := ⟨some (lowByte data), some (highByte data)⟩ } }
    let others := ∀ r ∈ s.path.trailing, r.direction ≠ word.direction ∧ r.remaining = true
    let due (d : Burst) := d.direction = word.direction ∧ d.remaining = true ∧ d.wait = 0
    (s.pathHeld = true ∨ s.path.state = .sleep ∨
        (∀ r ∈ s.path.trailing ++ s.path.burst.toList, r.direction ≠ word.direction ∨ r.remaining = false) ∧
          (word.direction = .write → s.path.looseWrite = none) ∨
        word.direction = .read ∧ s.path.looseRead ≠ .over ∧ (∀ r ∈ s.path.trailing ++ s.path.burst.toList, ¬due r) →
      exec (.burstWordTransfer word) s = .next { s with path := driven s.path }) ∧
    (s.decodes → word.direction = .write → s.path.looseWrite = some l → s.path.burst = none → others → l.crossed = false →
      exec (.burstWordTransfer word) s = .next { s with path := { driven s.path with
        looseWrite := if l.left = some 0 ∨ l.left = some 1 then none else some { l with crossed := true } } }) ∧
    (s.decodes → word.direction = .write → s.path.looseWrite = some l → s.path.burst = none → s.path.trailing = [] →
      l.crossed = true → l.left ≠ some 0 → l.left ≠ some 1 →
      exec (.burstWordTransfer word) s =
        exec (.burstWordTransfer word) { s with path := s.path.slot (.deselect {}) }) ∧
    (s.decodes → s.path.trailing = [b] → (∀ r ∈ s.path.burst, r.direction = .write) → word.direction = .read → due b →
      ∃ t, exec (.burstWordTransfer word) s = .next t ∧
      (let masks := s.path.masks.twoBack
       let passed := b.pass masks
       let shown := if b.served then b.snapshot.getD b.column 0 else data
       t.path.trailing = (if passed.remaining then [passed] else []) ∧
       t.path.arrived = { s.path.arrived with readData :=
         { low := if masks.low then none else some (lowByte shown)
           high := if masks.high then none else some (highByte shown) } })) ∧
    (s.decodes → s.path.burst = some b → others → due b →
    ∃ (t : State) (w : Window), exec (.burstWordTransfer word) s = .next t ∧
    (let masks := s.path.masks.for b.direction
     let passed : Burst := { b with
       next := b.next + 1
       columns := if masks.low ∧ masks.high then b.columns else b.columns ++ [b.column] }
     w = { s.window with shadow := w.shadow, postList := w.postList, latchedPresence := w.latchedPresence } ∧
     (b.window = .intake → ¬(masks.low ∧ masks.high) →
       (Memory.wf s.window.shadow = true → Memory.read w.shadow address =
         if address = 2 * b.column ∧ b.column < 292 ∧ masks.low = false then data.extractLsb' 0 8
         else if address = 2 * b.column + 1 ∧ b.column < 292 ∧ masks.high = false then data.extractLsb' 8 8
         else Memory.read s.window.shadow address) ∧
       w.postList =
         (if b.column < 256 ∧ b.column % 8 = 7 ∧ masks.high = false ∧ Fin.ofNat 32 (b.column / 8) ∉ s.window.postList
         then s.window.postList ++ [Fin.ofNat 32 (b.column / 8)] else s.window.postList) ∧
       w.latchedPresence = s.window.latchedPresence) ∧
     (b.window = .outside ∨ masks.low = true ∧ masks.high = true → w = s.window) ∧
     (b.direction = .write →
       t.path.arrived.writeData = ⟨some (lowByte data), some (highByte data)⟩) ∧
     (b.direction = .read → b.window = .outside →
       t.path.arrived.readData =
         { low := if masks.low then none else some (lowByte data)
           high := if masks.high then none else some (highByte data) }) ∧
     (b.direction = .read → (b.window = .status ∨ b.window = .catalogue) →
       t.path.arrived.readData =
         { low := if masks.low then none else some (lowByte (b.snapshot.getD b.column 0))
           high := if masks.high then none else some (highByte (b.snapshot.getD b.column 0)) } ∧
       w.shadow = s.window.shadow ∧ w.postList = s.window.postList ∧
       w.latchedPresence =
         if b.window = .status ∧ b.column = 72 ∧ ¬(masks.low ∧ masks.high)
         then (b.snapshot.getD 72 0).extractLsb' 0 12 else s.window.latchedPresence) ∧
     (let told : State := if b.window = .intake then { s with window := w }.takePosts else { s with window := w }
      t.path.trailing = s.path.trailing ∧
      if passed.remaining = true
      then t.path.burst = some passed ∧ t.path.banks = s.path.banks ∧ t.window = w ∧ t.events = s.events
      else t.path.burst = none ∧ t.window = told.window ∧ t.events = told.events ∧
        t.path.banks = if b.autoPrecharge then s.path.banks.set b.bank .idle else s.path.banks)))

/-- R21: a post to a PENDING slot writes its number into the collision record, raises the count, held at 255, appends
COLLISION with source 26 and the slot, and leaves the queued record, the queue, the completions and the shadow. A post
of a FREE slot latches its record from the shadow at the tail of the queue and counts as accepted; a post with code 0
does nothing (R19). -/
def Obligations.PostsTakeEffect : Prop :=
  ∀ (s : State) (c : CommandSlot),
    let column (k : Nat) := Memory.read s.window.shadow (2 * (8 * c.val + k) + 1) ++ Memory.read s.window.shadow (2 * (8 * c.val + k))
    let code := Memory.read s.window.shadow (16 * c.val + 15)
    let tag := Memory.read s.window.shadow (16 * c.val + 14)
    (code = 0 → s.post c = s) ∧
    (code ≠ 0 → (∃ r ∈ s.window.queue, r.slot = c) → s.post c =
      ({ s with window := { s.window with
          collisionSlot := BitVec.ofNat 8 c.val
          collisionCount := min 255 (s.window.collisionCount + 1) } }).appendEvent 26 .collision (BitVec.ofNat 16 c.val)) ∧
    (code ≠ 0 → (∀ r ∈ s.window.queue, r.slot ≠ c) → s.post c =
      { s with window := { s.window with
          queue := s.window.queue ++ [⟨c, code, tag, column 0, column 1, column 2, column 3, column 4, column 5, column 6⟩]
          postsAccepted := s.window.postsAccepted + 1 } })

/-! ## The commands of the window -/

/-- R23, R24: the command at the head is taken, writes its completion pair and the last-completed word and leaves the
queue; a success has detail 0, and a refusal changes nothing else in the whole block. A row whose command is not at
the head takes nothing: the model's choice (log 7). -/
def Obligations.TheHeadCompletes : Prop :=
  ∀ (row : Instr) (s : State) (r : CommandRecord) (rest : List CommandRecord), row ∈ commandRows →
    (s.window.queue = [] → exec row s = .next s) ∧
    (s.window.queue = r :: rest → commandOfCode r.code ≠ row → exec row s = .next s) ∧
    (s.window.queue = r :: rest → commandOfCode r.code = row → EvaluationQuiet s → ∃ t, exec row s = .next t ∧
      (let c := t.window.completions[r.slot]
       t.window = (s.completed r rest c.result.toNat c.detail).window ∧
       (((c.result = 1 ∨ c.result = 2) ∧ c.detail = 0) ∨
        (((c.detail >>> 12).toNat, c.result.toNat) ∈
            [(1, 0x80), (2, 0x81), (3, 0x82), (4, 0x83), (5, 0x84), (6, 0x85), (6, 0x86), (7, 0x87), (7, 0x88), (7, 0x89)] ∧
          t = s.refusedAt r rest (c.detail >>> 12).toNat c.result.toNat))))

/-- R24, R25, R26: by the command list, an unknown code gives 0x80, a target outside its class 0x81, an absent target
0x82 where presence is required, and an authority that does not suffice 0x83; the first check that fails gives the
result and the command changes nothing else. -/
def Obligations.ChecksAreTakenInOrder : Prop :=
  ∀ (s : State) (r : CommandRecord) (rest : List CommandRecord) (l : ListedCommand) (target field : Nat),
    s.window.queue = r :: rest → EvaluationQuiet s →
    r.a0 = BitVec.ofNat 8 field ++ BitVec.ofNat 8 target → target < 256 → field < 256 →
    (l ∈ commandList → l.code = r.code.toNat →
      (l.target.inRange target = false → exec (commandOfCode r.code) s = .next (s.refusedAt r rest 2 0x81)) ∧
      (l.target.inRange target = true → l.present = true → s.targetPresent l.target target = false →
        exec (commandOfCode r.code) s = .next (s.refusedAt r rest 3 0x82)) ∧
      (l.target.inRange target = true → (l.present = true → s.targetPresent l.target target = true) →
        s.authorityPasses l.authority target field = false →
        exec (commandOfCode r.code) s = .next (s.refusedAt r rest 4 0x83))) ∧
    ((∀ k ∈ commandList, k.code ≠ r.code.toNat) → exec .unknownCommand s = .next (s.refusedAt r rest 1 0x80))

/-- R81, R96, R97: each command sets its settings of one slot, clamped, and completes with DONE; a guard level above 3
and an edge or action that names no value are refused with OPERAND. Nothing else changes. -/
def Obligations.SlotSettingsAreSet : Prop :=
  ∀ (s : State) (r : CommandRecord) (rest : List CommandRecord) (n : SlotId) (field : Nat),
    r.aims (n.val + 1) field →
    (let level := (r.a1.extractLsb' 0 8).toNat
     s.taking r rest 0x12 → field = 0 → exec .setGuard s = .next
       (if level ≤ 3 then
         ({ s with slots := s.slots.set n { s.slots[n] with guardLevel := level } }).done r rest
        else s.refusedAt r rest 6 0x85)) ∧
    (s.taking r rest 0x14 → exec .setSlotTiming s = .next
       (({ s with slots := s.slots.set n { s.slots[n] with
            debounce := max 5 (min 200 r.a1.toNat), stopTimeout := max 1 (min 600 r.a2.toNat) } }).done r rest)) ∧
    (let edge := (r.a1.extractLsb' 0 8).toNat
     let action := (r.a2.extractLsb' 0 8).toNat
     s.taking r rest 0x15 → exec .setButton s = .next
       (if edge ≤ 1 ∧ action ≤ 1 then
         ({ s with slots := s.slots.set n { s.slots[n] with
            buttonEdge := if edge = 0 then .press else .release
            buttonAction := if action = 0 then .report else .powerToggle } }).done r rest
        else s.refusedAt r rest 6 0x85))

/-- R79, R111: POWER_ON is refused with STATE unless the slot is in STANDBY with a VALID record or an override, with
NEVER_FITS if its class max exceeds the capacity less the base load and the fan allocations, and else queues the slot
by priority and arrival, appends POWER and completes with STARTED. R26, R27, R78, R80: a BUTTON, AUTO or BLADE request
passes the same checks with authority 2, 2 and 3; a refusal appends POWER with the origin and the result. A blade's
power-request flag raises its request in STANDBY; from a POLL sent in STANDBY and answered after the slot has moved it
falls together with what moved it and is refused with STATE (R27), from any other it is not acted on: the model's
reading of R27 beside R78 (log 41). R76: the end of an identification in AUX_ON moves the slot to STANDBY, and with
AUTO_POWER and a VALID record an AUTO request follows. Here `finishEvent` is the evaluation that ends the event (R115;
model's form of it: log 9). The engine is freed after the outcome and the evaluation: the model's reading (log 19). A
running button timer is kept through a move of the slot: the model's choice beside 05 section 5.2 (log 35). -/
def Obligations.PowerOnQueuesTheSlot : Prop :=
  ∀ (s : State) (r : CommandRecord) (rest : List CommandRecord) (n : SlotId) (field : Nat) (c : PowerClass)
    (origin : Origin) (q : Transaction) (bytes : List Byte),
    (let e := bladeEndpoint n
     let state := (s.slot n).state
     let known := (s.inventoryRecord e).state = .valid ∨ (s.budgetRecord n).override ≠ none
     let left : Int := (s.capacity : Int) - s.budget.baseLoad - s.fanTotal
     let queued (o : Origin) (detail : Nat) : State :=
       ({ s with
          slots := s.slots.set n { s.slots[n] with state := .queued }
          budget := { s.budget with
            queue := insertEntry s.priorityOf ⟨n, o, s.budget.arrivals⟩ s.budget.queue
            arrivals := s.budget.arrivals + 1
            evaluationDue := true } } : State).appendEvent (n.val + 1) .power (BitVec.ofNat 16 detail)
     (s.taking r rest 0x10 → r.aims (n.val + 1) field → field ≤ (s.slot n).guardLevel → state.seated = true →
       (¬(state = .standby ∧ known) → exec .powerOn s = .next (s.refusedAt r rest 5 0x84)) ∧
       (state = .standby → known → s.candidateClass n = some c →
         (left < c.max → exec .powerOn s = .next (s.refusedAt r rest 7 0x88)) ∧
         ((c.max : Int) ≤ left →
           exec .powerOn s = .next (((queued .processor 0x0104).started r rest).finishEvent)))) ∧
     (origin ≠ .processor →
       let authority := if origin = .blade then 3 else 2
       let code := if origin = .button then 1 else if origin = .auto then 2 else 3
       let refused (result : Nat) : State :=
         s.appendEvent (n.val + 1) .power (BitVec.ofNat 16 (256 * (0x80 + code) + result))
       (state.seated = false → s.raiseRequest n origin = refused 0x82) ∧
       (state.seated = true → (s.slot n).guardLevel < authority → s.raiseRequest n origin = refused 0x83) ∧
       (state.seated = true → authority ≤ (s.slot n).guardLevel →
         (¬(state = .standby ∧ known) → s.raiseRequest n origin = refused 0x84) ∧
         (state = .standby → known → s.candidateClass n = some c →
           (left < c.max → s.raiseRequest n origin = refused 0x88) ∧
           ((c.max : Int) ≤ left → s.raiseRequest n origin = queued origin (256 * (code + 1) + 4))))) ∧
     (s.judging e q → q.kind = .poll → q.succeeds bytes → s.linkState e = .up → state ≠ .stopping →
       let flag := ((answerData bytes).getD 2 0).getLsbD 0
       let t := if flag = true ∧ (state = .standby ∨ q.fromStandby = true) then s.raiseRequest n .blade else s
       ∃ u : State, exec (.answerReceived (bladeEndpoint n) bytes) s = .next u.finishEvent.freeEngine ∧
         u.slots = t.slots ∧ u.budget = t.budget ∧ u.events = t.events) ∧
     (s.judging e q → q.kind = .ident → q.succeeds bytes → s.linkState e ≠ .absent → state = .auxOn →
       let moved (now : SlotState) := s.slots.set n { s.slots[n] with state := now, identificationTimer := none }
       ∃ u : State, exec (.answerReceived (bladeEndpoint n) bytes) s = .next u.finishEvent.freeEngine ∧
         (let record := (u.inventoryRecord e).state
          (record = .reading ∨ record = .absent → u.slots = s.slots ∧ s.reportsNothing u (n.val + 1) .power) ∧
          (record = .bad ∨ record = .valid ∧ s.straps.autoPower = false →
            u.slots = moved .standby ∧ s.reports u (n.val + 1) .power 0x0003) ∧
          (record = .valid → s.straps.autoPower = true → u.candidateClass n = some c →
            ((s.slot n).guardLevel < 2 → u.slots = moved .standby ∧
              eventDetail u.events.entries (n.val + 1) .power = some 0x8283) ∧
            (2 ≤ (s.slot n).guardLevel → left < c.max → u.slots = moved .standby ∧
              eventDetail u.events.entries (n.val + 1) .power = some 0x8288) ∧
            (2 ≤ (s.slot n).guardLevel → (c.max : Int) ≤ left → u.slots = moved .queued ∧
              u.budget.queue = insertEntry s.priorityOf ⟨n, .auto, s.budget.arrivals⟩ s.budget.queue ∧
              eventDetail u.events.entries (n.val + 1) .power = some 0x0304)))))

/-- R84 to R86, R88: from QUEUED the request is withdrawn; from RAMPING, and forced from ON or STOPPING, main power
goes off and the allocation is released; graceful from ON the blade is asked to halt and the stop timer starts;
graceful in STOPPING changes nothing; other states refuse it with STATE and another mode is refused with OPERAND. R48,
R86: in STOPPING the halted flag of a POLL ends the stop, and without it the slot stays as it is (one flag of a POLL
is acted on: log 33; the power request of a POLL sent in STANDBY: log 41). Here `finishEvent` is the evaluation that
ends the event (R115; model's form of it: log 9). The engine is freed after the outcome and the evaluation: the
model's reading (log 19). A running button timer is kept through a move of the slot: the model's choice beside 05
section 5.2 (log 35). -/
def Obligations.PowerOffFollowsTheState : Prop :=
  ∀ (s : State) (r : CommandRecord) (rest : List CommandRecord) (n : SlotId) (field : Nat) (q : Transaction)
    (bytes : List Byte),
    (s.taking r rest 0x11 → r.aims (n.val + 1) field → field ≤ (s.slot n).guardLevel → (s.slot n).state.seated = true →
    (let mode := (r.a1.extractLsb' 0 8).toNat
     let state := (s.slot n).state
     (state = .auxOn ∨ state = .standby ∨ state = .faulted → exec .powerOff s = .next (s.refusedAt r rest 5 0x84)) ∧
     (¬(state = .auxOn ∨ state = .standby ∨ state = .faulted) → 2 ≤ mode →
       exec .powerOff s = .next (s.refusedAt r rest 6 0x85)) ∧
     (state = .queued → mode ≤ 1 → exec .powerOff s = .next
       (((({ s with
          slots := s.slots.set n { s.slots[n] with state := .standby }
          budget := { s.budget with queue := s.budget.queue.filter (fun q => q.slot ≠ n), evaluationDue := true } }).appendEvent
            (n.val + 1) .power 0x0103).done r rest).finishEvent)) ∧
     (state = .stopping → mode = 0 → exec .powerOff s = .next (s.done r rest)) ∧
     (state = .ramping ∧ mode ≤ 1 ∨ state = .on ∧ mode = 1 ∨ state = .stopping ∧ mode = 1 → n ∈ s.budget.admitted →
       ∃ u : State, exec .powerOff s = .next u.finishEvent ∧
         u.slots = s.slots.set n { s.slots[n] with state := .standby, rampTimer := none, stopTimer := none } ∧
         u.budget = (if state = .on then (s.budget.released n).unflagged n else s.budget.released n) ∧
         (state = .on → (u.pin n).active = none) ∧
         u.events = (s.appendEvent (n.val + 1) .power 0x0103).events ∧ u.window = (s.done r rest).window ∧
         u.inventory = s.inventory ∧ u.thermal = s.thermal ∧ u.path = s.path ∧ u.straps = s.straps) ∧
     (state = .on → mode = 0 →
       ∃ u : State, exec .powerOff s = .next u.finishEvent ∧
         u.slots = s.slots.set n { s.slots[n] with
           state := .stopping, stopTimer := some (1000 * s.slots[n].stopTimeout) } ∧
         (s.linkState (bladeEndpoint n) = .up → u.asked (bladeEndpoint n) .halt) ∧
         u.budget = { s.budget with
           records := s.budget.records.set n { s.budget.records[n] with
             thermalFlag := false
             capTarget := none
             capTimer := if s.budget.records[n].capTarget = none then s.budget.records[n].capTimer else none
             pendingClassMax :=
               if s.budget.records[n].capTarget = none then s.budget.records[n].pendingClassMax else none }
           evaluationDue := true } ∧
         (u.pin n).active = none ∧
         u.events = (s.appendEvent (n.val + 1) .power 0x0107).events ∧ u.window = (s.started r rest).window ∧
         u.inventory = s.inventory ∧ u.thermal = s.thermal ∧ u.path = s.path ∧ u.straps = s.straps))) ∧
    (s.judging (bladeEndpoint n) q → q.kind = .poll → q.succeeds bytes → s.linkState (bladeEndpoint n) = .up →
      (s.slot n).state = .stopping →
      (let halted := ((answerData bytes).getD 2 0).getLsbD 1
       ∃ u : State, exec (.answerReceived (bladeEndpoint n) bytes) s = .next u.finishEvent.freeEngine ∧
         (halted = true → n ∈ s.budget.admitted →
           u.slots = s.slots.set n { s.slots[n] with state := .standby, rampTimer := none, stopTimer := none } ∧
           u.budget = s.budget.released n ∧ u.events = (s.appendEvent (n.val + 1) .power 0x0003).events) ∧
         (halted = false → u.slots = s.slots ∧ u.budget = s.budget ∧
           (q.fromStandby = false → u.events = s.events))))

/-- R93: CLEAR_FAULT leaves FAULTED for STANDBY with the link UP, else for AUX_ON with IDENT asked and the
identification timer started; in another state it is refused with STATE. A running button timer is kept through a move
of the slot: the model's choice beside 05 section 5.2 (log 35). -/
def Obligations.ClearFaultLeavesFaulted : Prop :=
  ∀ (s : State) (r : CommandRecord) (rest : List CommandRecord) (n : SlotId) (field : Nat),
    s.taking r rest 0x13 → r.aims (n.val + 1) field → (s.slot n).state.seated = true →
    ((s.slot n).state ≠ .faulted → exec .clearFault s = .next (s.refusedAt r rest 5 0x84)) ∧
    ((s.slot n).state = .faulted → ∃ t, exec .clearFault s = .next t ∧
      t.window = (s.done r rest).window ∧ t.budget = s.budget ∧ t.uplinks = s.uplinks ∧ t.thermal = s.thermal ∧
      t.inventory = s.inventory ∧ t.path = s.path ∧ t.straps = s.straps ∧
      (s.linkState (bladeEndpoint n) = .up →
        t.slots = s.slots.set n { s.slots[n] with state := .standby, fault := none } ∧
        (t.linkRecord (bladeEndpoint n)).pollTimer ≠ none ∧
        t.events = (s.appendEvent (n.val + 1) .power 0x0103).events) ∧
      (s.linkState (bladeEndpoint n) ≠ .up →
        t.slots = s.slots.set n { s.slots[n] with
          state := .auxOn, fault := none, identificationTimer := some 2000, button := s.slots[n].rawButton } ∧
        (s.linkState (bladeEndpoint n) ≠ .absent → t.asked (bladeEndpoint n) .ident) ∧
        t.events = (s.appendEvent (n.val + 1) .power 0x0102).events))

/-- R105, R107, R109: SET_REDUNDANCY sets a mode 0 to 2 and refuses others with OPERAND; SET_BASE_LOAD and
SET_SUPPLY_RATING set their clamped watts, 0 removing a rating override; the Budget Unit evaluates. Here `finishEvent`
is the evaluation that ends the event (R115; model's form of it: log 9). -/
def Obligations.BudgetSettingsAreSet : Prop :=
  ∀ (s : State) (r : CommandRecord) (rest : List CommandRecord) (i : BayId) (target : Nat),
    (let mode := (r.a1.extractLsb' 0 8).toNat
     s.taking r rest 0x20 → r.aims target 0 → exec .setRedundancy s = .next
       (if mode ≤ 2 then
         (({ s with budget := { s.budget with
            redundancy := if mode = 0 then .none else if mode = 1 then .nPlusOne else .feedSplit
            evaluationDue := true } }).done r rest).finishEvent
        else s.refusedAt r rest 6 0x85)) ∧
    (s.taking r rest 0x21 → r.aims target 0 → exec .setBaseLoad s = .next
      ((({ s with budget := { s.budget with
          baseLoad := min 4000 r.a1.toNat, evaluationDue := true } }).done r rest).finishEvent)) ∧
    (s.taking r rest 0x24 → r.aims (i.val + 1) 0 → exec .setSupplyRating s = .next
      ((({ s with budget := { s.budget with
          supplies := s.budget.supplies.set i { s.budget.supplies[i] with
            override := if r.a1 = 0 then none else some (max 200 (min 3000 r.a1.toNat)) }
          evaluationDue := true } }).done r rest).finishEvent))

/-- R112, R113: SET_PRIORITY sets the priority, moves a queued entry to its place by its original arrival, and the
Budget Unit evaluates; a priority above 3 is refused with OPERAND. CANCEL_REQUEST withdraws a queued request, and is
refused with STATE otherwise. Here `finishEvent` is the evaluation that ends the event (R115; model's form of it: log
9). A running button timer is kept through a move of the slot: the model's choice beside 05 section 5.2 (log 35). -/
def Obligations.QueuedEntriesMoveAndLeave : Prop :=
  ∀ (s : State) (r : CommandRecord) (rest : List CommandRecord) (n : SlotId) (field : Nat),
    r.aims (n.val + 1) field →
    (s.taking r rest 0x22 →
    exec .setPriority s = .next
      (let p := (r.a1.extractLsb' 0 8).toNat
       if p ≤ 3 then
         (({ s with budget := { s.budget with
            records := s.budget.records.set n { s.budget.records[n] with priority := p }
            queue := match s.budget.queue.find? fun q : QueueEntry => q.slot = n with
              | none => s.budget.queue
              | some e => insertEntry (fun m => if m = n then p else s.priorityOf m) e
                  (s.budget.queue.filter fun q : QueueEntry => q.slot ≠ n)
            evaluationDue := true } }).done r rest).finishEvent
       else s.refusedAt r rest 6 0x85)) ∧
    (s.taking r rest 0x25 → (s.slot n).state.seated = true →
    exec .cancelRequest s = .next
      (if (s.slot n).state = .queued then
        ((({ s with
          slots := s.slots.set n { s.slots[n] with state := .standby }
          budget := { s.budget with queue := s.budget.queue.filter (fun q => q.slot ≠ n), evaluationDue := true } }).appendEvent
            (n.val + 1) .power 0x0103).done r rest).finishEvent
       else s.refusedAt r rest 5 0x84))

/-- R125: a blade that is not powered takes or drops the override; a RAMPING or STOPPING blade takes a class that
holds its allocation; an ON blade takes a class whose floor is not above its projected value, its maximum at once, or
at the CAP that confirms it, which is asked at once when its projected value is above it. A floor above the maximum is
refused with OPERAND and the other cases with STATE. Where the new maximum holds the allocation, an earlier pending
maximum is dropped: the model's choice (log 21). Here `finishEvent` is the evaluation that ends the event (R115;
model's form of it: log 9). -/
def Obligations.OverrideClassIsJudged : Prop :=
  ∀ (s : State) (r : CommandRecord) (rest : List CommandRecord) (n : SlotId) (c : PowerClass),
    s.taking r rest 0x23 → r.aims (n.val + 1) 0 →
    (let b := s.budget.records[n]
     let with' (q : BudgetRecord) : State :=
       { s with budget := { s.budget with records := s.budget.records.set n q, evaluationDue := true } }
     let asked : PowerClass := ⟨max 50 (min 1500 r.a1.toNat), max 20 (min 1500 r.a2.toNat)⟩
     (s.powered n = false → r.a1 = 0 →
       exec .overrideClass s = .next (((with' { b with override := none }).done r rest).finishEvent)) ∧
     (s.powered n = false → r.a1 ≠ 0 → exec .overrideClass s = .next
       (if asked.floor ≤ asked.max then ((with' { b with override := some asked }).done r rest).finishEvent
        else s.refusedAt r rest 6 0x85)) ∧
     (s.powered n = true → r.a1 = 0 → s.suppliedClass n = none →
       exec .overrideClass s = .next (s.refusedAt r rest 5 0x84)) ∧
     ((r.a1 ≠ 0 ∧ c = asked ∨ r.a1 = 0 ∧ s.suppliedClass n = some c ∧ c.floor ≤ c.max) →
       let o := if r.a1 = 0 then none else some c
       (((s.slot n).state = .ramping ∨ (s.slot n).state = .stopping) →
         exec .overrideClass s = .next
           (if ¬(c.floor ≤ b.allocation ∧ b.allocation ≤ c.max) then s.refusedAt r rest 5 0x84
            else ((with' { b with override := o, fixedClass := c, pendingClassMax := none }).done r rest).finishEvent)) ∧
       ((s.slot n).state = .on → b.capTarget.getD b.allocation < c.floor →
         exec .overrideClass s = .next (s.refusedAt r rest 5 0x84)) ∧
       ((s.slot n).state = .on → c.floor ≤ b.capTarget.getD b.allocation → c.max < c.floor →
         exec .overrideClass s = .next (s.refusedAt r rest 6 0x85)) ∧
       ((s.slot n).state = .on → c.floor ≤ b.capTarget.getD b.allocation → c.floor ≤ c.max →
         (b.allocation ≤ c.max → exec .overrideClass s = .next
           (((with' { b with override := o, fixedClass := c, pendingClassMax := none }).done r rest).finishEvent)) ∧
         (c.max < b.allocation → b.capTarget.getD b.allocation ≤ c.max → exec .overrideClass s = .next
           (((with' { b with
              override := o, fixedClass := ⟨b.fixedClass.max, c.floor⟩, pendingClassMax := some c.max }).done
                r rest).finishEvent)) ∧
         (c.max < b.allocation → c.max < b.capTarget.getD b.allocation → s.linkState (bladeEndpoint n) = .up →
           ∃ l, exec .overrideClass s = .next
             ((({ with' { b with
                override := o, fixedClass := ⟨b.fixedClass.max, c.floor⟩, pendingClassMax := some c.max
                capTarget := some c.max, capTimer := some 2000 } with link := l }).done r rest).finishEvent) ∧
             ({ s with link := l } : State).asked (bladeEndpoint n) .cap))))

/-- R135: LOAD_CURVE adopts the points staged for its zone before the first unused one: 2 to 6 points of rising
temperature within -80..250 and duty that never falls within 0..1000, every later point unused. Any other staging area
is refused with CURVE. Nothing else changes. -/
def Obligations.LoadCurveAdoptsThePoints : Prop :=
  ∀ (s : State) (r : CommandRecord) (rest : List CommandRecord) (z : ZoneId) (field n : Nat),
    s.taking r rest 0x30 → r.aims (z.val + 1) field → n ≤ 6 →
    (let temperature (k : Nat) : Word := s.shadowWord (256 + 12 * z.val + 2 * k)
     let duty (k : Nat) : Nat := (s.shadowWord (256 + 12 * z.val + 2 * k + 1)).toNat
     (∀ k, k < n → temperature k ≠ 0x7FFF) → (n < 6 → temperature n = 0x7FFF) →
     let adopted : Prop := 2 ≤ n ∧ (∀ k, k < 6 → n ≤ k → temperature k = 0x7FFF) ∧
       (∀ k, k < n → -80 ≤ (temperature k).toInt ∧ (temperature k).toInt ≤ 250 ∧ duty k ≤ 1000) ∧
       (∀ k, k < n → k + 1 < n → (temperature k).toInt < (temperature (k + 1)).toInt ∧ duty k ≤ duty (k + 1))
     (adopted → exec .loadCurve s = .next
       (({ s with thermal := { s.thermal with
         zones := s.thermal.zones.set z { s.thermal.zones[z] with
           curve := (List.range n).map fun k => ⟨(temperature k).toInt, duty k⟩ } } }).done r rest)) ∧
     (¬adopted → exec .loadCurve s = .next (s.refusedAt r rest 6 0x86)))

/-- R138 to R141: SET_FAN_MODE and SET_ZONE_LIMITS take their clamped operands; the duty is re-formed at once, the fan
allocation follows it, and the Budget Unit evaluates if that report changed; nothing else changes; a mode above 1 and
a t_crit that is not below t_shut are refused with OPERAND. Here `finishEvent` is the evaluation that ends the event
(R115; model's form of it: log 9). -/
def Obligations.ZoneSettingsAreSet : Prop :=
  ∀ (s : State) (r : CommandRecord) (rest : List CommandRecord) (z : ZoneId) (field : Nat),
    r.aims (z.val + 1) field →
    (let formed (q : Zone) : Zone :=
       let duty := if q.limits.critical ≤ q.temperature ∨ s.okFans z = 0 then 1000
         else if q.manual then max q.limits.floor (min 1000 q.manualDuty)
         else max q.duty q.limits.floor
       { q with duty := duty, lowDuty := q.lowDuty || decide (duty < 200) }
     let after (q : Zone) : State :=
       let watts := s.okFans z * (((formed q).wattsPerFan * (formed q).duty ^ 3 + 999999999) / 1000000000)
       ((({ s with
          thermal := { s.thermal with zones := s.thermal.zones.set z (formed q) }
          budget := { s.budget with
            fanAllocations := s.budget.fanAllocations.set z watts
            evaluationDue := decide (s.budget.fanAllocations[z] ≠ watts) } } : State).done r rest).finishEvent)
     (let mode := (r.a1.extractLsb' 0 8).toNat
      s.taking r rest 0x32 → exec .setFanMode s = .next
        (if mode ≤ 1 then after { s.thermal.zones[z] with manual := mode = 1, manualDuty := min 1000 r.a2.toNat }
         else s.refusedAt r rest 6 0x85)) ∧
     (let limits : ZoneLimits :=
        { floor := min 1000 r.a1.toNat
          critical := max (-80) (min 250 r.a2.toInt)
          shutdown := max (-80) (min 250 r.a3.toInt)
          stale := max (-80) (min 250 r.a4.toInt)
          upStep := 10 * max 1 (min 100 (r.a5.extractLsb' 0 8).toNat)
          downStep := 10 * max 1 (min 100 (r.a5.extractLsb' 8 8).toNat)
          grace := max 10 (min 300 r.a6.toNat) }
      s.taking r rest 0x31 → exec .setZoneLimits s = .next
        (if limits.critical < limits.shutdown then after { s.thermal.zones[z] with limits := limits }
         else s.refusedAt r rest 6 0x85)))

/-- R29, R64, R131, R165, R177: SYNC only completes; SET_OFFSET, SET_FAILBACK, SELECT_VIEW and SET_ATTENTION each set
one record, clamped, and complete; a page outside 1 to 7 is refused with OPERAND. Nothing else changes. -/
def Obligations.SingleRecordsAreSet : Prop :=
  ∀ (s : State) (r : CommandRecord) (rest : List CommandRecord) (k : SourceId) (e : Endpoint) (target field : Nat),
    (s.taking r rest 0x01 → r.aims target field → exec .sync s = .next (s.done r rest)) ∧
    (s.taking r rest 0x33 → r.aims (if k.val < 12 then k.val + 1 else k.val + 5) field →
      exec .setOffset s = .next (({ s with thermal := { s.thermal with
        readings := s.thermal.readings.set k { s.thermal.readings[k] with
          offset := max (-20) (min 20 r.a1.toInt) } } }).done r rest)) ∧
    (s.taking r rest 0x42 → r.aims target field →
      exec .setFailback s = .next (({ s with uplinks := { s.uplinks with
        failbackHold := min 600 r.a1.toNat } }).done r rest)) ∧
    (let page := (r.a1.extractLsb' 0 8).toNat
     s.taking r rest 0x52 → r.aims e.val field →
      exec .selectView s = .next (if 1 ≤ page ∧ page ≤ 7 then
        ({ s with inventory := { s.inventory with viewEndpoint := e, viewPage := page } }).done r rest
        else s.refusedAt r rest 6 0x85)) ∧
    (s.taking r rest 0x61 → r.aims target field →
      exec .setAttention s = .next (({ s with events := { s.events with
        mask := r.a1.extractLsb' 0 13 } }).done r rest))

/-- R158, R160: SET_GROUP and SET_PIN set their records, cancel the failback timers the rules name, and the uplinks of
all blades are worked out again by R159; a group above 3 and a preferred uplink above 4 are refused with OPERAND. -/
def Obligations.UplinkSettingsAreSet : Prop :=
  ∀ (s : State) (r : CommandRecord) (rest : List CommandRecord) (u : UplinkId) (n : SlotId) (field : Nat),
    (let group := (r.a1.extractLsb' 0 8).toNat
     s.taking r rest 0x40 → r.aims (u.val + 1) field → exec .setGroup s = .next
       (if group ≤ 3 then
         (({ s with uplinks := { s.uplinks with
            ports := s.uplinks.ports.set u { s.uplinks.ports[u] with group := group }
            pins := s.uplinks.pins.map fun p : Pin =>
              if p.preferred = some u then { p with failbackTimer := none } else p } }).rework).done r rest
        else s.refusedAt r rest 6 0x85)) ∧
    (let number := (r.a1.extractLsb' 0 8).toNat
     s.taking r rest 0x41 → r.aims (n.val + 1) field → exec .setPin s = .next
       (if number ≤ 4 then
         (({ s with uplinks := { s.uplinks with
            pins := s.uplinks.pins.set n { s.uplinks.pins[n] with
              preferred := if number = 0 then none else some (Fin.ofNat 4 (number - 1))
              weight := max 1 (min 100 r.a2.toNat)
              failbackTimer := none } } }).rework).done r rest
        else s.refusedAt r rest 6 0x85))

/-- R57, R59, R60, R63: FETCH_PAGES gives the record's pages the first frames of the free list and asks for page 1,
refused with STATE where no fetch may start and with NO_SPACE for want of frames; DROP_PAGES returns the frames in
page order and ends a fetch; REREAD puts the record in READING with the fields it shows, clears the retry mark and
asks for IDENT, refused with STATE during a fetch and for a blade in QUEUED, RAMPING, ON or STOPPING. R51: an identity
page is judged CHECK, KIND or FIELD in this order, or accepted with its examined fields. R54 to R58, R67: an accepted
page makes a record in READING VALID and frees its pages if they are another device's or another number; a first CHECK
failure sets the retry mark and asks again; a second, KIND and FIELD make it BAD; a record not in READING keeps what
it holds; a failed IDENT on a link that stays UP is asked again. R61: a PAGE answer makes the page awaited READ,
repeats it once, or makes it BAD, and the fetch moves on or ends. R62: a fetch ends with FETCH_ABORTED when the link
is LOST, and with FETCH_DONE when the failure that makes it LOST is the second of the last page. Here `finishEvent` is
the evaluation that ends the event (R115; model's form of it: log 9). The engine is freed after the outcome and the
evaluation: the model's reading (log 19). -/
def Obligations.RecordsAreReadAndDropped : Prop :=
  ∀ (s : State) (r : CommandRecord) (rest : List CommandRecord) (e : Endpoint) (n : SlotId) (field : Nat)
    (i : Identity) (q : Transaction) (bytes : List Byte) (p : Page),
    (let old := s.inventory.records[e]
     let with' (d : InventoryRecord) (free : List Nat) : Inventory :=
       { s.inventory with records := s.inventory.records.set e d, free := free }
     let may := old.state = .valid ∧ old.fields = some i ∧ 0 < i.pageCount ∧ old.pages = [] ∧ s.linkState e ≠ .lost
     let data := answerData bytes
     let k := q.argument
     (s.taking r rest 0x50 → r.aims e.val field → s.linkState e ≠ .absent → old.fields = some i ∨ old.fields = none →
       (¬may → exec .fetchPages s = .next (s.refusedAt r rest 5 0x84)) ∧
       (may → s.inventory.free.length < i.pageCount → exec .fetchPages s = .next (s.refusedAt r rest 7 0x87)) ∧
       (may → i.pageCount ≤ s.inventory.free.length → ∃ l, exec .fetchPages s = .next
         (({ s with
            link := l
            inventory := { s.inventory with
              records := s.inventory.records.set e { old with
                pages := (s.inventory.free.take i.pageCount).map fun f => ⟨f, .waiting, false, []⟩
                fetch := some 1 }
              free := s.inventory.free.drop i.pageCount } } : State).started r rest) ∧
         ({ s with link := l } : State).asked e .page)) ∧
     (s.taking r rest 0x51 → r.aims e.val field → exec .dropPages s = .next
       (({ s with
          inventory := with' { old with pages := [], fetch := none } (s.inventory.free ++ old.frames) } : State).done r rest)) ∧
     (s.taking r rest 0x53 → r.aims e.val field → s.linkState e ≠ .absent →
       let state := (s.slot n).state
       (old.fetch ≠ none ∨ e = bladeEndpoint n ∧ (state = .queued ∨ state = .ramping ∨ state = .on ∨ state = .stopping) →
         exec .reread s = .next (s.refusedAt r rest 5 0x84)) ∧
       (old.fetch = none → (∀ m : SlotId, e = bladeEndpoint m → ¬((s.slot m).state = .queued ∨ (s.slot m).state = .ramping ∨
           (s.slot m).state = .on ∨ (s.slot m).state = .stopping)) →
         ∃ t, exec .reread s = .next t ∧
         t.inventory = with' { old with
             state := .reading
             retryMark := false
             fields := if old.state = .valid ∨ old.state = .reading then old.fields else none } s.inventory.free ∧
         t.asked e .ident ∧ t.window = (s.started r rest).window ∧ t.slots = s.slots ∧ t.budget = s.budget ∧
         t.thermal = s.thermal ∧ t.events = s.events ∧ t.path = s.path)) ∧
     (data.length = 64 →
       let byte (m : Nat) : Nat := (data.getD m 0).toNat
       let word (m : Nat) : Nat := byte m + 256 * byte (m + 1)
       let code := if e.val = 0 then 4 else if e.val ≤ 12 then 1 else if e.val ≤ 16 then 2 else 3
       let lawful : Prop := byte 4 ≤ 16 ∧ (∀ m, m < byte 4 → 0x20 ≤ byte (5 + m) ∧ byte (5 + m) ≤ 0x7E) ∧
         (e.val ≤ 12 → byte 21 ≤ 7 ∧ byte 26 ≤ 7) ∧ (13 ≤ e.val → byte 21 = 0) ∧
         (1 ≤ e.val → e.val ≤ 12 →
           50 ≤ word 22 ∧ word 22 ≤ 1500 ∧ 20 ≤ word 24 ∧ word 24 ≤ word 22 ∧ 1 ≤ byte 26) ∧
         (13 ≤ e.val → e.val ≤ 16 → 200 ≤ word 22 ∧ word 22 ≤ 3000) ∧
         (17 ≤ e.val → 5 ≤ word 22 ∧ word 22 ≤ 200 ∧ 500 ≤ word 24 ∧ word 24 ≤ 20000)
       (byteSum data ≠ 0 → judgePage (deviceOf e) data = .check) ∧
       (byteSum data = 0 → byte 0 ≠ code → judgePage (deviceOf e) data = .kind) ∧
       (byteSum data = 0 → byte 0 = code → ¬lawful → judgePage (deviceOf e) data = .field) ∧
       (byteSum data = 0 → byte 0 = code → lawful → judgePage (deviceOf e) data = .accepted
         { kind := data.getD 0 0
           model := BitVec.ofNat 16 (word 1)
           revision := data.getD 3 0
           serial := (data.drop 5).take (byte 4)
           pageCount := byte 21
           field1 := if e.val = 0 then 0 else word 22
           field2 := if 1 ≤ e.val ∧ e.val ≤ 12 ∨ 17 ≤ e.val then word 24 else 0
           abilities := if e.val ≤ 12 then (data.getD 26 0).extractLsb' 0 3 else 0 })) ∧
     (s.judging e q → q.kind = .ident → q.succeeds bytes → s.linkState e ≠ .absent →
       let same : Prop := ∀ kept ∈ old.fields, kept.model = i.model ∧ kept.serial = i.serial
       let alike : Prop := same ∧ ∀ kept ∈ old.fields, kept.pageCount = i.pageCount
       let found : InventoryRecord := { old with state := .valid, fields := some i, retryMark := false }
       let rejected (u : State) (reason : Nat) : Prop :=
         u.inventory = with' { old with state := .bad, fields := none, retryMark := false, pages := [], fetch := none }
           (s.inventory.free ++ old.frames) ∧ s.reports u e.val .inventory (256 * reason + 2)
       ∃ u : State, exec (.answerReceived e bytes) s = .next u.finishEvent.freeEngine ∧
         (old.state ≠ .reading → u.inventory = s.inventory ∧ s.reportsNothing u e.val .inventory) ∧
         (old.state = .reading →
           (judgePage (deviceOf e) data = .accepted i →
             (alike → u.inventory = with' found s.inventory.free) ∧
             (¬alike → u.inventory = with' { found with pages := [] } (s.inventory.free ++ old.frames)) ∧
             (same → s.reports u e.val .inventory 1) ∧
             (¬same → s.reports u e.val .inventory (256 * old.pages.length + 3))) ∧
           (judgePage (deviceOf e) data = .check → old.retryMark = false →
             u.inventory = with' { old with retryMark := true } s.inventory.free ∧ u.waits e .ident ∧
             s.reportsNothing u e.val .inventory) ∧
           (judgePage (deviceOf e) data = .check → old.retryMark = true → rejected u 1) ∧
           (judgePage (deviceOf e) data = .kind → rejected u 2) ∧
           (judgePage (deviceOf e) data = .field → rejected u 3))) ∧
     (s.judging e q → q.kind = .ident → ¬q.succeeds bytes → s.linkState e = .up → s.spares e →
       ∃ u : State, exec (.answerReceived e bytes) s = .next u.finishEvent.freeEngine ∧
         u.inventory = s.inventory ∧ (old.state = .reading → u.waits e .ident)) ∧
     (s.judging e q → q.kind = .page → s.linkState e = .contact ∨ s.linkState e = .up →
       q.succeeds bytes ∨ s.spares e →
       let read : Prop := q.succeeds bytes ∧ byteSum data = 0
       let moves (u : State) (pages : List Page) : Prop :=
         (k < pages.length → u.inventory = with' { old with pages := pages, fetch := some (k + 1) } s.inventory.free ∧
           (∃ r ∈ u.link.table, r.endpoint = e ∧ r.kind = .page ∧ r.argument = k + 1) ∧
           s.reportsNothing u e.val .inventory) ∧
         (pages.length ≤ k → u.inventory = with' { old with pages := pages, fetch := none } s.inventory.free ∧
           s.reports u e.val .inventory (256 * (pages.filter fun p => p.state = .bad).length + 4))
       ∃ u : State, exec (.answerReceived e bytes) s = .next u.finishEvent.freeEngine ∧
         (old.fetch ≠ some k → u.inventory = s.inventory ∧ s.reportsNothing u e.val .inventory) ∧
         (old.fetch = some k → old.pages[k - 1]? = some p →
           (read → moves u (old.pages.set (k - 1) { p with state := .read, data := data })) ∧
           (¬read → p.repeatMark = true → moves u (old.pages.set (k - 1) { p with state := .bad })) ∧
           (¬read → p.repeatMark = false →
             u.inventory = with' { old with pages := old.pages.set (k - 1) { p with repeatMark := true } } s.inventory.free ∧
             (∃ r ∈ u.link.table, r.endpoint = e ∧ r.kind = .page ∧ r.argument = k) ∧
             s.reportsNothing u e.val .inventory))) ∧
     (s.judging e q → ¬q.succeeds bytes → s.linkState e = .contact ∨ s.linkState e = .up → ¬s.spares e →
       let aborted (u : State) (pages : List Page) : Prop :=
         u.inventory = with' { old with pages := pages, fetch := none } s.inventory.free ∧
         s.reports u e.val .inventory (256 * (pages.filter fun p => p.state = .waiting).length + 5)
       ∃ u : State, exec (.answerReceived e bytes) s = .next u.finishEvent.freeEngine ∧
         (old.fetch = none → u.inventory = s.inventory ∧ s.reportsNothing u e.val .inventory) ∧
         (old.fetch ≠ none → q.kind ≠ .page ∨ old.fetch ≠ some k → aborted u old.pages) ∧
         (q.kind = .page → old.fetch = some k → old.pages[k - 1]? = some p → p.repeatMark = false →
           aborted u (old.pages.set (k - 1) { p with repeatMark := true })) ∧
         (q.kind = .page → old.fetch = some k → old.pages[k - 1]? = some p → p.repeatMark = true →
           let pages := old.pages.set (k - 1) { p with state := .bad }
           (k < old.pages.length → aborted u pages) ∧
           (old.pages.length ≤ k → u.inventory = with' { old with pages := pages, fetch := none } s.inventory.free ∧
             s.reports u e.val .inventory (256 * (pages.filter fun p => p.state = .bad).length + 4)))))

/-- R175: an append counts up the entry of its source and kind, at most to 255, with the new detail at the old place,
or puts a new entry with count 1 at the tail. R176: ACK_EVENT with a kind code outside 1..12 is refused with OPERAND;
with no such entry, or a count less than the count seen, with STALE_ACK; else the entry is removed or its count falls
by the count seen, clamped to 1..255. -/
def Obligations.EventsCountUpAndDown : Prop :=
  ∀ (s : State) (r : CommandRecord) (rest : List CommandRecord) (kind : EventKind) (source field : Nat)
    (before after : List EventEntry) (e : EventEntry) (detail : Word),
    (let with' (l : List EventEntry) : State := { s with events := { s.events with entries := l } }
     ((∀ d ∈ s.events.entries, ¬(d.source = source ∧ d.kind = kind)) →
       s.appendEvent source kind detail = with' (s.events.entries ++ [⟨source, kind, 1, detail⟩])) ∧
     (s.events.entries = before ++ e :: after → e.source = source → e.kind = kind →
       (∀ d ∈ before, ¬(d.source = source ∧ d.kind = kind)) →
       s.appendEvent source kind detail = with' (before ++ { e with count := min 255 (e.count + 1), detail := detail } :: after))) ∧
    (s.taking r rest 0x60 → r.aims source field → source ≤ 26 →
      (let code := (r.a1.extractLsb' 0 8).toNat
       let seen := max 1 (min 255 r.a2.toNat)
       let with' (l : List EventEntry) : State := { s with events := { s.events with entries := l } }
       (code = 0 ∨ 12 < code → exec .ackEvent s = .next (s.refusedAt r rest 6 0x85)) ∧
       (code = kindCode kind → (∀ d ∈ s.events.entries, ¬(d.source = source ∧ d.kind = kind)) →
         exec .ackEvent s = .next (s.refusedAt r rest 7 0x89)) ∧
       (code = kindCode kind → s.events.entries = before ++ e :: after → e.source = source → e.kind = kind →
         (∀ d ∈ before, ¬(d.source = source ∧ d.kind = kind)) →
         exec .ackEvent s = .next
           (if e.count < seen then s.refusedAt r rest 7 0x89
            else if e.count = seen then (with' (before ++ after)).done r rest
            else (with' (before ++ { e with count := e.count - seen } :: after)).done r rest))))

/-! ## The reset lines -/

/-- R16, R33, R49, R68, R100, R127, R153, R172, R180: a processor reset returns the path and the window to their
initial state, the view to endpoint 0 page 1 and the attention mask to all enabled, and nothing else; its release
changes only the line. A chassis reset returns every block to its initial state and latches the straps; the raw lines,
the processor reset line, the lines being forwarded and the queue of waiting commands stay: the model's choice (log
28). After a chassis reset the IDENT of the switch module waits in the table with nothing in flight until the line is
released: the model's reading of R44 under a held line (log 4). -/
def Obligations.ResetsReturnTheBlock : Prop :=
  ∀ (s : State) (p : Straps) (n : SlotId) (e : Endpoint) (i : BayId) (z : ZoneId) (u : UplinkId) (f : FanId) (k : SourceId),
    (let path : Path := { arrived := s.path.arrived, driven := s.path.driven }
     exec .processorReset s = .next { s with
       processorReset := true, path := path, window := {}
       inventory := { s.inventory with viewEndpoint := 0, viewPage := 1 }
       events := { s.events with mask := 0x1FFF } } ∧
     exec .processorResetRelease s = .next { s with processorReset := false } ∧
     ∃ t, exec (.chassisReset p) s = .next t ∧
       t.pending = s.pending ∧ t.chassisReset = true ∧ t.processorReset = s.processorReset ∧ t.straps = p ∧
       t.path = path ∧ t.window = {} ∧ t.events = {} ∧
       t.link.table = [⟨0, .ident, 0, .inventoryStore⟩] ∧ t.link.inFlight = none ∧ t.link.pointer = 0 ∧
       t.linkRecord e = { state := if e = 0 then .contact else .absent } ∧
       t.inventoryRecord e = { state := if e = 0 then .reading else .absent } ∧
       t.inventory.free = List.range 48 ∧ t.inventory.viewEndpoint = 0 ∧ t.inventory.viewPage = 1 ∧
       t.slot n = { rawPresence := (s.slot n).rawPresence, rawButton := (s.slot n).rawButton,
                    powerGood := (s.slot n).powerGood, overcurrent := (s.slot n).overcurrent } ∧
       t.budgetRecord n = { priority := 2 } ∧ t.budget.queue = [] ∧ t.budget.admitted = [] ∧ t.budget.baseLoad = 300 ∧
       t.budget.redundancy =
         (if p.redundancy = 0 then .none else if p.redundancy = 2 then .feedSplit else .nPlusOne) ∧
       t.budget.fanAllocations[z] = 0 ∧ t.budget.overcommit = false ∧ t.budget.evaluationDue = false ∧
       t.supply i = { rawPresent := (s.supply i).rawPresent, rawOk := (s.supply i).rawOk } ∧
       t.zone z = { rawModule := (s.zone z).rawModule, duty := 1000, temperature := 90, manualDuty := 1000,
                    curve := [⟨40, 300⟩, ⟨60, 400⟩, ⟨72, 650⟩, ⟨90, 1000⟩] } ∧
       t.fan f = {} ∧ t.reading k = {} ∧
       t.port u = { group := if u.val < 2 then 0 else 1, link := (s.port u).link, speed := (s.port u).speed,
                    fault := (s.port u).fault } ∧
       t.pin n = { preferred := some (Fin.ofNat 4 n.val), weight := 10, portSpeed := 1000 } ∧
       t.uplinks.failbackHold = 30 ∧ t.uplinks.switchReady = false)

/-- R49, R100, R127, R153, R172: at the end of a chassis reset the lines that are high act as having risen, the zones'
update timers start, a zone without a module starts its grace timer and reports it, and the IDENT of the switch module
is sent (at this event by log 4). The row does nothing with the line released (log 6). -/
def Obligations.ChassisReleaseStartsTheTimers : Prop :=
  ∀ (s : State) (n : SlotId) (i : BayId) (z : ZoneId) (u : UplinkId),
    (s.chassisReset = false → exec .chassisResetRelease s = .next s) ∧
    (s.chassisReset = true → ∃ t, exec .chassisResetRelease s = .next t ∧ t.chassisReset = false ∧
      t.slot n = (if (s.slot n).rawPresence then
          { s.slot n with state := .settling, presenceTimer := some (s.slot n).debounce } else s.slot n) ∧
      t.supply i = { s.supply i with
        presentTimer := if (s.supply i).rawPresent then some 10 else none
        okTimer := if (s.supply i).rawOk then some 10 else none } ∧
      t.zone z = (if (s.zone z).rawModule then
          { s.zone z with updateTimer := some 1000, moduleTimer := some 20 }
        else { s.zone z with updateTimer := some 1000, graceTimer := some (1000 * (s.zone z).limits.grace) }) ∧
      eventCount t.events.entries (z.val + 17) .thermal = (if (s.zone z).rawModule
        then eventCount s.events.entries (z.val + 17) .thermal
        else min 255 (eventCount s.events.entries (z.val + 17) .thermal + 1)) ∧
      ((t.port u).upTimer ≠ none ↔ (s.port u).up = false ∧ (s.port u).link = true ∧ (s.port u).fault = false) ∧
      (s.link.table ≠ [] → t.link.inFlight ≠ none) ∧ (∀ q ∈ t.link.table, q ∈ s.link.table) ∧
      t.inventory = s.inventory ∧ t.path = s.path ∧ t.window = s.window ∧ t.straps = s.straps ∧
      t.budget.records = s.budget.records ∧ t.thermal.fans = s.thermal.fans ∧ t.thermal.readings = s.thermal.readings)

/-! ## The slot links -/

/-- R36, R41, R42: the end of a request starts the transaction timer at 5 ms; a reconnect timer starts again at 2 s
and asks for IDENT; a poll timer starts again at its period, 1 s for the switch module and 250 ms for the others, and
asks for POLL unless the link is LOST. A timer that does not run has no expiry: the model's choice (log 6). -/
def Obligations.LinkTimersRun : Prop :=
  ∀ (s : State) (e : Endpoint),
    (∃ t, exec .requestFrameSent s = .next t ∧ t = { s with link := { s.link with
      inFlight := s.link.inFlight.map fun q : Transaction =>
        if q.timer = none then { q with timer := some 5 } else q } }) ∧
    ((s.linkRecord e).reconnectTimer = none → exec (.reconnectTimerExpiry e) s = .next s) ∧
    ((s.linkRecord e).reconnectTimer ≠ none → ∃ t, exec (.reconnectTimerExpiry e) s = .next t ∧
      t = { s with link := t.link } ∧
      t.link.records = s.link.records.set e { s.link.records[e] with reconnectTimer := some 2000 } ∧
      (s.linkState e ≠ .absent → t.asked e .ident)) ∧
    ((s.linkRecord e).pollTimer = none → exec (.pollTimerExpiry e) s = .next s) ∧
    ((s.linkRecord e).pollTimer ≠ none → ∃ t, exec (.pollTimerExpiry e) s = .next t ∧
      t = { s with link := t.link } ∧
      t.link.records = s.link.records.set e { s.link.records[e] with
        pollTimer := some (if e = 0 then 1000 else 250) } ∧
      (s.linkState e ≠ .absent → s.linkState e ≠ .lost → t.asked e .poll))

/-- R36, R39 to R41, R46 to R49, R122, R129, R130, R169, R170: bytes on a link that awaits none, or whose request is
not yet sent, are ignored (log 18); an answer to a transaction from before a departure only frees the engine; a
success clears the failure count, makes the link UP and reaches its requester (readings, readiness, pin table, and a
cap of the target's watts); PINS is asked when the switch is found ready or its link comes UP. A failure counts; in
CONTACT it asks for IDENT again, and a failed PINS leaves every blade unconfirmed and is asked again; the third makes
the link LOST with LINK reported, the readings of the endpoint STALE and the switch not ready. What IDENT, PAGE and
CAP answers and the blade's flags do is in RecordsAreReadAndDropped, PowerOnQueuesTheSlot, PowerOffFollowsTheState and
SuppliesAndCapsFollowTheirTimers. The evaluation then ends the event and the arbiter runs (log 9, log 19). A running
transaction timer that expires is such a failure; one that does not run has no expiry (log 6). -/
def Obligations.AnswersAreJudged : Prop :=
  ∀ (s : State) (e : Endpoint) (bytes : List Byte) (q : Transaction),
    (s.link.inFlight = none ∨ s.link.inFlight = some q ∧ q.timer = none → exec .transactionTimeout s = .next s) ∧
    (s.link.inFlight = some q → q.timer ≠ none →
      exec .transactionTimeout s = exec (.answerReceived q.endpoint [1]) s) ∧
    (s.link.inFlight = none → exec (.answerReceived e bytes) s = .next s) ∧
    (s.link.inFlight = some q → q.endpoint ≠ e ∨ q.timer = none → exec (.answerReceived e bytes) s = .next s) ∧
    (let data := answerData bytes
     let old := s.linkRecord e
     (s.link.inFlight = some q → q.endpoint = e → q.timer ≠ none → old.presenceCount ≠ q.presenceCount →
       ∃ t, exec (.answerReceived e bytes) s = .next t ∧
         t = { s with link := t.link } ∧ t.link.records = s.link.records ∧ (s.link.table = [] → t.link.inFlight = none)) ∧
     (s.judging e q → q.succeeds bytes → ∃ u : State,
         exec (.answerReceived e bytes) s = .next u.finishEvent.freeEngine ∧
         (u.linkState e = .up ∧ (u.linkRecord e).failures = 0 ∧ (u.linkRecord e).reconnectTimer = none) ∧
         (old.state = .lost → s.reports u e.val .link 2) ∧ (old.state ≠ .lost → s.reportsNothing u e.val .link) ∧
         (∀ k : SourceId, q.kind = .poll →
           (∃ n : SlotId, e = bladeEndpoint n ∧ k = bladeSource n) ∨ (∃ z : ZoneId, e = moduleEndpoint z ∧ k = moduleSource z) →
           u.thermal = { s.thermal with readings := s.thermal.readings.set k { s.thermal.readings[k] with
             value := max (-80) (min 250 (wordAt data 0).toInt), fresh := true, timer := some 750 } }) ∧
         (q.kind = .poll → e = 0 →
           let ready := (data.getD 0 0).getLsbD 0
           u.uplinks.switchReady = ready ∧
           (ready = true → s.uplinks.switchReady = false → old.state ≠ .absent → u.waits 0 .pins) ∧
           (ready = false → s.uplinks.switchReady = true → ∀ n : SlotId, (u.pin n).confirmed = none) ∧
           (ready = s.uplinks.switchReady → ∀ n : SlotId, (u.pin n).confirmed = (s.pin n).confirmed)) ∧
         (e = 0 → old.state ≠ .up → old.state ≠ .absent → u.waits 0 .pins) ∧
         (q.kind = .pins → ∀ n : SlotId, (u.pin n).confirmed = q.table[n.val]?) ∧
         (∀ n : SlotId, q.kind = .cap → e = bladeEndpoint n → s.powered n = true →
           (s.budgetRecord n).capTarget = some q.argument → q.argument < (s.budgetRecord n).allocation →
           (wordAt data 0).toNat = q.argument →
           (u.budgetRecord n).allocation = q.argument ∧ (u.budgetRecord n).confirmedCap = q.argument ∧
           (u.budgetRecord n).capTarget = none ∧ (u.budgetRecord n).capTimer = none)) ∧
     (s.judging e q → ¬q.succeeds bytes → ∃ u : State,
         exec (.answerReceived e bytes) s = .next u.finishEvent.freeEngine ∧
         (u.linkRecord e).failures = min 3 (old.failures + 1) ∧
         (q.kind = .pins → ∀ n : SlotId, (u.pin n).confirmed = none) ∧
         (old.state = .lost ∨ s.spares e → u.linkState e = old.state ∧ s.reportsNothing u e.val .link ∧
           u.thermal = s.thermal ∧ u.uplinks.switchReady = s.uplinks.switchReady ∧
           (q.kind = .pins → e = 0 → old.state = .contact ∨ old.state = .up → u.waits 0 .pins) ∧
           (old.state = .contact → u.waits e .ident)) ∧
         (old.state ≠ .lost → ¬s.spares e → u.linkState e = .lost ∧ s.reports u e.val .link 3 ∧
           (u.linkRecord e).reconnectTimer = some 2000 ∧ (u.linkRecord e).pollTimer = none ∧
           (∀ r ∈ u.link.table, r.endpoint = e → r.kind = .ident) ∧
           (e = 0 → u.uplinks.switchReady = false ∧ ∀ n : SlotId, (u.pin n).confirmed = none) ∧
           (∀ k : SourceId,
             (∃ n : SlotId, e = bladeEndpoint n ∧ k = bladeSource n) ∨ (∃ z : ZoneId, e = moduleEndpoint z ∧ k = moduleSource z) →
             u.thermal = { s.thermal with readings := s.thermal.readings.set k { s.thermal.readings[k] with
               fresh := false, timer := none } }) ∧
           ((∀ n : SlotId, e ≠ bladeEndpoint n) → (∀ z : ZoneId, e ≠ moduleEndpoint z) → u.thermal = s.thermal))))

/-- R44: the request the arbiter chooses is pending, is urgent if any pending one is, and no request of its class
stands at an endpoint nearer to the pointer in the rotation, or at the same endpoint earlier in the order HALT, CAP,
PINS, IDENT, PAGE, POLL. -/
def Obligations.ArbiterChoosesInOrder : Prop :=
  ∀ (table : List Request) (p : Endpoint) (r q : Request),
    let place (e : Endpoint) : Nat := (e.val + 20 - p.val) % 20
    let order (k : TransactionKind) : Nat := kindOrder.idxOf k
    arbiterChoice table p = some r → q ∈ table →
      r ∈ table ∧ (q.kind.urgent = true → r.kind.urgent = true) ∧
      (q.kind.urgent = r.kind.urgent →
        place r.endpoint < place q.endpoint ∨ r.endpoint = q.endpoint ∧ order r.kind ≤ order q.kind)

/-! ## The blade slots -/

/-- R71, R72, R75, R77: a rise in EMPTY and any change in SETTLING start the debounce timer; the expiry leads to EMPTY
or, with the blade's endpoint present and IDENT asked, to AUX_ON; the identification timer starts again with the link
UP, and else faults the slot with NO_LINK. A line that keeps its level and a timer that does not run do nothing (log
6, log 17), and under the chassis reset line only the level is recorded (log 4). Here `finishEvent` is the evaluation
that ends the event (R115; model's form of it: log 9). A running button timer is kept through a move of the slot: the
model's choice beside 05 section 5.2 (log 35). -/
def Obligations.PresenceIsDebounced : Prop :=
  ∀ (s : State) (n : SlotId) (level : Bool), EvaluationQuiet s →
    (let r := s.slots[n]
     let e := bladeEndpoint n
     let with' (q : SlotRecord) : State := { s with slots := s.slots.set n q }
     (s.chassisReset = true → exec (.presenceLineChange n level) s = .next (with' { r with rawPresence := level })) ∧
     (s.chassisReset = false → r.rawPresence = level → exec (.presenceLineChange n level) s = .next s) ∧
     (s.chassisReset = false → r.rawPresence ≠ level → r.state = .settling ∨ r.state = .empty ∧ level = true →
       exec (.presenceLineChange n level) s = .next (with' { r with
         rawPresence := level, state := .settling, presenceTimer := some r.debounce })) ∧
     (s.chassisReset = false → r.rawPresence ≠ level → r.state.seated = true ∧ level = true ∨ r.state = .empty ∧ level = false →
       exec (.presenceLineChange n level) s = .next (with' { r with rawPresence := level })) ∧
     (r.state ≠ .settling ∨ r.presenceTimer = none → exec (.presenceDebounceExpiry n) s = .next s) ∧
     (r.state = .settling → r.presenceTimer ≠ none → r.rawPresence = false →
       ∃ u : State, exec (.presenceDebounceExpiry n) s = .next u.finishEvent ∧
       u.slots = s.slots.set n { r with state := .empty, presence := false, presenceTimer := none } ∧
       u.inventory.records = s.inventory.records.set e { s.inventory.records[e] with
         state := .absent, fields := none, retryMark := false } ∧ u.events = s.events) ∧
     (r.state = .settling → r.presenceTimer ≠ none → r.rawPresence = true →
       ∃ u : State, exec (.presenceDebounceExpiry n) s = .next u.finishEvent ∧
       u.slots = s.slots.set n { r with
         state := .auxOn, presence := true, presenceTimer := none, fault := none, identificationTimer := some 2000
         button := r.rawButton } ∧
       u.linkRecord e = { s.linkRecord e with
         state := .contact, failures := 0, pollTimer := none, reconnectTimer := none } ∧
       u.asked e .ident ∧
       u.inventory.records = s.inventory.records.set e { s.inventory.records[e] with
         state := .reading, fields := none, retryMark := false } ∧
       u.events = (s.appendEvent (n.val + 1) .power 0x0002).events) ∧
     (r.state ≠ .auxOn ∨ r.identificationTimer = none → exec (.identificationTimerExpiry n) s = .next s) ∧
     (r.state = .auxOn → r.identificationTimer ≠ none → s.linkState e = .up →
       exec (.identificationTimerExpiry n) s = .next (with' { r with identificationTimer := some 2000 })) ∧
     (r.state = .auxOn → r.identificationTimer ≠ none → s.linkState e ≠ .up →
       ∃ u : State, exec (.identificationTimerExpiry n) s = .next u.finishEvent ∧ s.faultsTo u n r .noLink))

/-- R73, R74: the fall of the raw presence line of a seated slot, as a line change or as the removal, takes the blade
out of the slot, the Link Engine, the inventory's pages, the budget, its zone and its uplink at that event. A removal
with the line already low does nothing (log 17), one of a slot that is not seated acts as the line change. Here
`finishEvent` is the evaluation that ends the event (R115; model's form of it: log 9). -/
def Obligations.RemovalReachesEveryBlock : Prop :=
  ∀ (s : State) (n : SlotId), EvaluationQuiet s →
    (s.chassisReset = false → (s.slot n).state.seated = true → (s.slot n).rawPresence = true →
      ((s.slot n).state.powered = true → n ∈ s.budget.admitted) →
      (∃ u : State, exec (.removal n) s = .next u.finishEvent ∧ s.removesTo u n) ∧
      exec (.presenceLineChange n false) s = exec (.removal n) s) ∧
    (s.chassisReset = false → (s.slot n).rawPresence = false → exec (.removal n) s = .next s) ∧
    (s.chassisReset = true ∨ (s.slot n).state.seated = false →
      exec (.removal n) s = exec (.presenceLineChange n false) s)

/-- R83, R87, R90, R91: power good in RAMPING turns the slot ON; the ramp timer, a loss of power in ON and STOPPING
and an overcurrent in a powered state fault it; the stop timer ends STOPPING. In other states a line only takes its
level; a timer that does not run does nothing (log 6), a row that repeats its line's level changes nothing (log 17),
and the row's low level lowers the overcurrent line (log 16). Here `finishEvent` is the evaluation that ends the event
(R115; model's form of it: log 9). A running button timer is kept through a move of the slot: the model's choice
beside 05 section 5.2 (log 35). -/
def Obligations.PowerFollowsItsLines : Prop :=
  ∀ (s : State) (n : SlotId), ((s.slot n).state.powered = true → n ∈ s.budget.admitted) →
    (let r := s.slots[n]
     let with' (q : SlotRecord) : State := { s with slots := s.slots.set n q }
     (r.state = .ramping → r.powerGood = false → ∃ u : State, exec (.powerGoodRise n) s = .next u.finishEvent ∧
       u.slots = s.slots.set n { r with state := .on, powerGood := true, rampTimer := none } ∧
       u.budget = { s.budget with
         records := s.budget.records.set n { s.budget.records[n] with
           thermalFlag := s.budget.records[n].thermalFlag || (s.zone (zoneOf n)).critical }
         evaluationDue := true } ∧
       u.events = (s.appendEvent (n.val + 1) .power 0x0006).events ∧ s.slotFrame u) ∧
     (r.state ≠ .ramping ∨ r.powerGood = true → exec (.powerGoodRise n) s = .next (with' { r with powerGood := true })) ∧
     (r.state = .ramping → r.rampTimer ≠ none → ∃ u : State, exec (.rampTimerExpiry n) s = .next u.finishEvent ∧
       s.faultsTo u n r .ramp) ∧
     (r.state ≠ .ramping ∨ r.rampTimer = none → exec (.rampTimerExpiry n) s = .next s) ∧
     (r.powerGood = true → r.state = .on ∨ r.state = .stopping →
       ∃ u : State, exec (.powerGoodFall n) s = .next u.finishEvent ∧ s.faultsTo u n { r with powerGood := false } .powerLost) ∧
     (r.powerGood = false ∨ ¬(r.state = .on ∨ r.state = .stopping) →
       exec (.powerGoodFall n) s = .next (with' { r with powerGood := false })) ∧
     (r.overcurrent = false → r.state.powered = true →
       ∃ u : State, exec (.overcurrentRise n true) s = .next u.finishEvent ∧
         s.faultsTo u n { r with overcurrent := true } .overcurrent) ∧
     (r.overcurrent = true ∨ r.state.powered = false →
       exec (.overcurrentRise n true) s = .next (with' { r with overcurrent := true })) ∧
     exec (.overcurrentRise n false) s = .next (with' { r with overcurrent := false }) ∧
     (r.state = .stopping → r.stopTimer ≠ none → ∃ u : State, exec (.stopTimerExpiry n) s = .next u.finishEvent ∧
       u.slots = s.slots.set n { r with state := .standby, rampTimer := none, stopTimer := none } ∧
       u.budget = s.budget.released n ∧ u.events = (s.appendEvent (n.val + 1) .power 0x0603).events ∧ s.slotFrame u) ∧
     (r.state ≠ .stopping ∨ r.stopTimer = none → exec (.stopTimerExpiry n) s = .next s))

/-- R94, R95: a change of the raw button line starts the debounce timer in a seated slot; the debounced edge that
matches the setting appends BUTTON and, with POWER_TOGGLE, asks for power in STANDBY and for a stop in ON, judged
against the guard level with authority 2; a press in STANDBY that fails check 5 or 7 appends POWER with the origin and
the result. A row that repeats the line's level does nothing (log 17), and a timer that does not run does nothing (log
6). Here `finishEvent` is the evaluation that ends the event (R115; model's form of it: log 9). -/
def Obligations.ButtonsAreDebounced : Prop :=
  ∀ (s : State) (n : SlotId) (level : Bool) (check code : Nat), EvaluationQuiet s →
    (let r := s.slots[n]
     let with' (q : SlotRecord) : State := { s with slots := s.slots.set n q }
     let settled : SlotRecord := { r with button := r.rawButton, buttonTimer := none }
     let edge : ButtonEdge := if r.rawButton then .press else .release
     let due := r.state.seated = true ∧ r.buttonTimer ≠ none
     let matching := r.rawButton ≠ r.button ∧ edge = r.buttonEdge
     exec (.buttonLineChange n level) s = .next (with' { r with
       rawButton := level
       buttonTimer := if r.state.seated = true ∧ r.rawButton ≠ level then some r.debounce else r.buttonTimer }) ∧
     (¬due → exec (.buttonDebounceExpiry n) s = .next s) ∧
     (due → ¬matching → exec (.buttonDebounceExpiry n) s = .next (with' settled)) ∧
     (due → matching → r.buttonAction = .report → exec (.buttonDebounceExpiry n) s = .next
       ((with' settled).appendEvent (n.val + 1) .button (if r.rawButton then 0x0000 else 0x0001))) ∧
     (due → matching → r.buttonAction = .powerToggle → r.state ≠ .standby → r.state ≠ .on →
       exec (.buttonDebounceExpiry n) s = .next
         ((with' settled).appendEvent (n.val + 1) .button (if r.rawButton then 0x0300 else 0x0301))) ∧
     (due → matching → r.buttonAction = .powerToggle → (r.state = .standby ∨ r.state = .on) → r.guardLevel < 2 →
       exec (.buttonDebounceExpiry n) s = .next
         (((with' settled).appendEvent (n.val + 1) .button
           (BitVec.ofNat 16 ((if r.state = .standby then 0x100 else 0x200) + if r.rawButton then 0 else 1))).appendEvent
             (n.val + 1) .power 0x8183)) ∧
     (due → matching → r.buttonAction = .powerToggle → r.state = .standby → 2 ≤ r.guardLevel → s.powerChecks n = none →
       exec (.buttonDebounceExpiry n) s = .next
         (((({ with' { settled with state := .queued } with budget := { s.budget with
            queue := insertEntry s.priorityOf ⟨n, .button, s.budget.arrivals⟩ s.budget.queue
            arrivals := s.budget.arrivals + 1
            evaluationDue := true } }).appendEvent (n.val + 1) .button (if r.rawButton then 0x0100 else 0x0101)).appendEvent
              (n.val + 1) .power 0x0204).finishEvent)) ∧
     (due → matching → r.buttonAction = .powerToggle → r.state = .standby → 2 ≤ r.guardLevel →
       s.powerChecks n = some (.refused check code) → exec (.buttonDebounceExpiry n) s = .next
         (((with' settled).appendEvent (n.val + 1) .button (if r.rawButton then 0x0100 else 0x0101)).appendEvent
           (n.val + 1) .power (BitVec.ofNat 16 (0x8100 + code)))) ∧
     (due → matching → r.buttonAction = .powerToggle → r.state = .on → 2 ≤ r.guardLevel →
       ∃ u : State, exec (.buttonDebounceExpiry n) s = .next u.finishEvent ∧
       u.slots = s.slots.set n { settled with state := .stopping, stopTimer := some (1000 * r.stopTimeout) } ∧
       (s.linkState (bladeEndpoint n) = .up → u.asked (bladeEndpoint n) .halt) ∧
       u.events = (((with' settled).appendEvent (n.val + 1) .button (if r.rawButton then 0x0200 else 0x0201)).appendEvent
         (n.val + 1) .power 0x0207).events ∧ s.slotFrame u))

/-! ## Supplies and caps -/

/-- R102, R103, R121, R123: a changed supply line starts its debounce at 10 ms, but under the chassis reset line and
when it keeps its level only the level is recorded (log 4, log 17); the expiry takes the raw level, and a changed
supply state is reported and evaluated; an expired cap timer sheds the blade whose decrease it waited for. A timer
that does not run does nothing (log 6). R122: a CAP answer of a blade that is not powered is disregarded; below the
allocation it confirms a pending decrease: the allocation becomes the watts sent, a pending class max they do not
exceed is taken over, and the decrease is complete at its target and else stays pending (below its target too: the
model's choice where R122's sentences name no case, log 37); with no decrease pending, or not below the allocation, it
updates the confirmed cap only; other watts accepted shed the blade, and so do a failed CAP below the allocation and
the link's loss with a decrease pending (R123). Here `finishEvent` is the evaluation that ends the event (R115;
model's form of it: log 9). The engine is freed after the outcome and the evaluation: the model's reading (log 19). A
running button timer is kept through a move of the slot: the model's choice beside 05 section 5.2 (log 35). -/
def Obligations.SuppliesAndCapsFollowTheirTimers : Prop :=
  ∀ (s : State) (i : BayId) (level : Bool) (n : SlotId) (q : Transaction) (bytes : List Byte) (target : Nat),
    (let shed (u : State) : Prop :=
       u.slots = s.slots.set n { s.slots[n] with state := .standby, rampTimer := none, stopTimer := none } ∧
       u.budget = { s.budgetWithout n with evaluationDue := true }
     let reported (u : State) : Prop :=
       u.events = ((s.appendEvent (n.val + 1) .power 0x0703).appendEvent 24 .budget
         (BitVec.ofNat 16 (256 * (n.val + 1) + 4))).events
     let r := s.budget.supplies[i]
     let with' (q : Supply) : State := { s with budget := { s.budget with supplies := s.budget.supplies.set i q } }
     let stateOf (p o : Bool) : Nat := if p then (if o then 2 else 1) else 0
     exec (.supplyLineChange i .present level) s = .next (with' { r with
       rawPresent := level
       presentTimer := if s.chassisReset = true ∨ r.rawPresent = level then r.presentTimer else some 10 }) ∧
     exec (.supplyLineChange i .ok level) s = .next (with' { r with
       rawOk := level
       okTimer := if s.chassisReset = true ∨ r.rawOk = level then r.okTimer else some 10 }) ∧
     (r.presentTimer = none → exec (.supplyDebounceExpiry i .present) s = .next s) ∧
     (r.okTimer = none → exec (.supplyDebounceExpiry i .ok) s = .next s) ∧
     (r.presentTimer ≠ none →
       (r.present = r.rawPresent → exec (.supplyDebounceExpiry i .present) s = .next (with' { r with presentTimer := none })) ∧
       (r.present ≠ r.rawPresent → ∃ u : State, exec (.supplyDebounceExpiry i .present) s = .next u.finishEvent ∧
         u.budget = { s.budget with
           supplies := s.budget.supplies.set i { r with present := r.rawPresent, presentTimer := none }
           evaluationDue := true } ∧
         (u.linkState (supplyEndpoint i) = .absent ↔ r.rawPresent = false) ∧
         (u.inventoryRecord (supplyEndpoint i)).state = (if r.rawPresent then .reading else .absent) ∧
         (u.inventoryRecord (supplyEndpoint i)).fields = none ∧
         u.events = (s.appendEvent (i.val + 13) .supply
           (BitVec.ofNat 16 (256 * stateOf r.present r.ok + stateOf r.rawPresent r.ok))).events ∧
         u.slots = s.slots ∧ u.thermal = s.thermal)) ∧
     (r.okTimer ≠ none →
       (r.ok = r.rawOk ∨ r.present = false → exec (.supplyDebounceExpiry i .ok) s = .next
         (with' { r with ok := r.rawOk, okTimer := none })) ∧
       (r.ok ≠ r.rawOk → r.present = true → exec (.supplyDebounceExpiry i .ok) s = .next
         ((({ s with budget := { s.budget with
           supplies := s.budget.supplies.set i { r with ok := r.rawOk, okTimer := none }
           evaluationDue := true } }).appendEvent (i.val + 13) .supply
             (BitVec.ofNat 16 (256 * stateOf true r.ok + stateOf true r.rawOk))).finishEvent))) ∧
     ((s.budgetRecord n).capTimer = none → exec (.capTimerExpiry n) s = .next s) ∧
     ((s.budgetRecord n).capTimer ≠ none → s.powered n = true → (s.budgetRecord n).capTarget ≠ none →
       ∃ u : State, exec (.capTimerExpiry n) s = .next u.finishEvent ∧
         shed u ∧ reported u ∧ s.slotFrame u) ∧
     (s.judging (bladeEndpoint n) q →
       s.linkState (bladeEndpoint n) = .up ∨ s.linkState (bladeEndpoint n) = .contact ∧ (s.slot n).state ≠ .auxOn →
       let b := s.budget.records[n]
       let sent := q.argument
       let accepted := (wordAt (answerData bytes) 0).toNat
       let becomes (u : State) (d : BudgetRecord) (due : Bool) : Prop :=
         u.budget = { s.budget with records := s.budget.records.set n d, evaluationDue := due } ∧
         u.slots = s.slots ∧ u.events = s.events
       (q.kind = .cap → q.succeeds bytes →
         ∃ u : State, exec (.answerReceived (bladeEndpoint n) bytes) s = .next u.finishEvent.freeEngine ∧
           (s.powered n = false → becomes u b s.budget.evaluationDue) ∧
           (s.powered n = true →
             (b.capTarget = none ∨ b.allocation ≤ sent →
               becomes u { b with confirmedCap := accepted } s.budget.evaluationDue) ∧
             (b.capTarget = some target → sent < b.allocation →
               (accepted ≠ sent → shed u ∧ reported u) ∧
               (accepted = sent → target = sent →
                 becomes u { b with
                   allocation := sent, confirmedCap := accepted, capTarget := none, capTimer := none
                   fixedClass := match b.pendingClassMax with
                     | none => b.fixedClass
                     | some m => if sent ≤ m then ⟨m, b.fixedClass.floor⟩ else b.fixedClass
                   pendingClassMax := b.pendingClassMax.filter fun m => m < sent } true) ∧
               (accepted = sent → target ≠ sent →
                 becomes u { b with
                   allocation := sent, confirmedCap := accepted
                   fixedClass := match b.pendingClassMax with
                     | none => b.fixedClass
                     | some m => if sent ≤ m then ⟨m, b.fixedClass.floor⟩ else b.fixedClass
                   pendingClassMax := b.pendingClassMax.filter fun m => m < sent } true)))) ∧
       (¬q.succeeds bytes →
         ∃ u : State, exec (.answerReceived (bladeEndpoint n) bytes) s = .next u.finishEvent.freeEngine ∧
           (s.powered n = true ∧ b.capTarget = some target →
             (s.spares (bladeEndpoint n) → q.kind = .cap → sent < b.allocation → shed u ∧ reported u) ∧
             (¬s.spares (bladeEndpoint n) → shed u)) ∧
           (s.powered n = false ∨ b.capTarget = none ∨ s.spares (bladeEndpoint n) ∧ (q.kind ≠ .cap ∨ b.allocation ≤ sent) →
             u.budget = s.budget ∧ u.slots = s.slots))))

/-! ## Zones and fans -/

/-- R134: on a rising curve the curve duty is the first point's at or below it, the last point's at or above it, and
between two points the straight line rounded up. The boosted duty of a target is the target itself with both fans OK,
twice it with one, at most 1000, and 1000 with none (R136). -/
def Obligations.DutyFollowsTheCurve : Prop :=
  ∀ (before after : List CurvePoint) (p q : CurvePoint) (t : Int) (target : Nat),
    (let rising (curve : List CurvePoint) : Prop := curve.Pairwise fun a b => a.temperature < b.temperature ∧ a.duty ≤ b.duty
     (rising (p :: after) → t ≤ p.temperature → curveDuty (p :: after) t = p.duty) ∧
     (rising (before ++ [p]) → p.temperature ≤ t → curveDuty (before ++ [p]) t = p.duty) ∧
     (rising (before ++ p :: q :: after) → p.temperature ≤ t → t < q.temperature →
       (p.duty : Int) ≤ curveDuty (before ++ p :: q :: after) t ∧
       ((q.duty : Int) - p.duty) * (t - p.temperature) ≤
         (curveDuty (before ++ p :: q :: after) t - p.duty) * (q.temperature - p.temperature) ∧
       (curveDuty (before ++ p :: q :: after) t - p.duty) * (q.temperature - p.temperature) <
         ((q.duty : Int) - p.duty) * (t - p.temperature) + (q.temperature - p.temperature))) ∧
    boostedDuty target 0 = 1000 ∧ boostedDuty target 1 = min 1000 (2 * target) ∧ boostedDuty target 2 = min 1000 target

/-- R132: the windows close and the fans are judged, the temperature is the largest contribution, the duty follows the
law, CRITICAL and the shutdown count are judged, the blades that a shutdown or an expired grace reaches are faulted
with their allocations released, the fan allocation is reported, and FAN and THERMAL are counted. A timer that does
not run has no expiry (log 6). Here `finishEvent` is the evaluation that ends the event (R115; model's form of it: log
9). A running button timer is kept through a move of the slot: the model's choice beside 05 section 5.2 (log 35). -/
def Obligations.ZoneUpdateTakesItsSteps : Prop :=
  ∀ (s : State) (z : ZoneId) (n : SlotId) (f : FanId),
    ((s.zone z).updateTimer = none → exec (.zoneUpdate z) s = .next s) ∧
    ((s.zone z).updateTimer ≠ none → ((s.slot n).state.powered = true → n ∈ s.budget.admitted) →
      ∃ u : State, exec (.zoneUpdate z) s = .next u.finishEvent ∧
      (let old := s.zone z
       let new := u.zone z
       let g := s.fan f
       let minimum := s.suppliedMinimumRpm z
       let closed : Fan := { g with rpm := 30 * g.pulses, pulses := 0, firstWindow := false }
       let contribution (k : SourceId) : Int :=
         if (s.reading k).fresh then max (-80) (min 250 ((s.reading k).value + (s.reading k).offset)) else old.limits.stale
       let counts (k : SourceId) : Prop :=
         (∃ m : SlotId, zoneOf m = z ∧ (s.slot m).state = .on ∧ k = bladeSource m) ∨ old.module = true ∧ k = moduleSource z
       let target := boostedDuty (max (curveDuty old.curve new.temperature) old.limits.floor) (u.okFans z)
       let hot : Bool := decide (old.limits.critical ≤ new.temperature)
       let cool : Bool := decide (new.temperature < old.limits.critical - 4)
       let reached (m : SlotId) : Bool := ((s.slot m).state == .on || (s.slot m).state == .stopping) && zoneOf m == z &&
         (new.shutdownCount == 3 || old.graceExpired)
       u.fan f = (if zoneOfFan f ≠ z ∨ g.state = .absent then g
         else if g.firstWindow = true then closed
         else if old.lowDuty = true then { closed with lowWindows := 0, goodWindows := 0 }
         else if 30 * g.pulses < minimum then { closed with
           lowWindows := min 2 (g.lowWindows + 1), goodWindows := 0
           state := if g.state = .ok ∧ 1 ≤ g.lowWindows then .failed else g.state }
         else { closed with
           lowWindows := 0, goodWindows := min 2 (g.goodWindows + 1)
           state := if g.state = .failed ∧ 1 ≤ g.goodWindows then .ok else g.state }) ∧
       (∀ k, counts k → contribution k ≤ new.temperature) ∧
       ((∃ k, counts k ∧ new.temperature = contribution k) ∨ (∀ k, ¬counts k) ∧ new.temperature = old.limits.stale) ∧
       new = { old with
         updateTimer := some 1000
         minimumRpm := minimum
         wattsPerFan := s.suppliedWatts z
         temperature := new.temperature
         duty := if hot ∨ u.okFans z = 0 then 1000
           else if old.manual = true then max old.limits.floor (min 1000 old.manualDuty)
           else if old.duty ≤ target then min target (old.duty + old.limits.upStep)
           else max target (old.duty - old.limits.downStep)
         lowDuty := decide (old.duty < 200) || decide (new.duty < 200)
         critical := if old.critical then !cool else hot
         shutdownCount := if new.temperature < old.limits.shutdown then 0 else min 3 (old.shutdownCount + 1) } ∧
       u.slot n = (if reached n then (s.slot n).faulted .thermal else s.slot n) ∧
       (reached n → (u.budgetRecord n).allocation = 0 ∧ n ∉ u.budget.admitted) ∧
       (u.budgetRecord n).thermalFlag =
         (if zoneOf n ≠ z then (s.budgetRecord n).thermalFlag
          else if reached n ∧ (s.slot n).state = .on ∨ old.critical = true ∧ cool then false
          else (s.budgetRecord n).thermalFlag || (!old.critical && hot && (s.slot n).state == .on)) ∧
       u.budget.fanAllocations = s.budget.fanAllocations.set z
         (u.okFans z * ((new.wattsPerFan * new.duty ^ 3 + 999999999) / 1000000000)) ∧
       eventCount u.events.entries (z.val + 17) .fan = (if ∃ e : FanId, (u.fan e).state ≠ (s.fan e).state
         then min 255 (eventCount s.events.entries (z.val + 17) .fan + 1)
         else eventCount s.events.entries (z.val + 17) .fan) ∧
       (eventCount s.events.entries (z.val + 17) .thermal ≤ 255 → eventCount u.events.entries (z.val + 17) .thermal =
         min 255 (eventCount s.events.entries (z.val + 17) .thermal +
           (if new.critical = old.critical then 0 else 1) + (if ∃ m : SlotId, reached m = true then 1 else 0))) ∧
       u.thermal.readings = s.thermal.readings ∧ u.inventory = s.inventory ∧ u.processorSide = s.processorSide))

/-- R129, R142 to R144, R151: a pulse counts in a fitted fan; an expired freshness timer makes its reading STALE; a
changed module line starts its debounce; insertion fits both fans, ends the grace and re-forms the duty; removal takes
the module out of every block, starts the grace timer and drives the fans at 1000; an expired grace faults the zone's
running blades. A module line that keeps its level does nothing (log 17) and under the chassis reset line only its
level is recorded (log 4); a timer that does not run has no expiry (log 6). At an insertion the fan allocation is
taken at the watts per fan still in use, beside the estimate at the defaults that R142 and R147 give a module not yet
known: the model's choice (log 38). Here `finishEvent` is the evaluation that ends the event (R115; model's form of
it: log 9). A running button timer is kept through a move of the slot: the model's choice beside 05 section 5.2 (log
35). -/
def Obligations.ModulesComeAndGo : Prop :=
  ∀ (s : State) (z : ZoneId) (f : FanId) (k : SourceId) (n : SlotId) (level : Bool),
    (let r := s.thermal.zones[z]
     let e := moduleEndpoint z
     let fans (q : Fan) : Vector Fan 6 := (s.thermal.fans.set (firstFan z) q).set (secondFan z) q
     let with' (q : Zone) : State := { s with thermal := { s.thermal with zones := s.thermal.zones.set z q } }
     exec (.tachPulse f) s = .next (if (s.fan f).state = .absent then s else { s with thermal := { s.thermal with
       fans := s.thermal.fans.set f { s.thermal.fans[f] with pulses := s.thermal.fans[f].pulses + 1 } } }) ∧
     exec (.freshnessTimerExpiry k) s = .next (if (s.reading k).timer = none then s else { s with thermal := { s.thermal with
       readings := s.thermal.readings.set k { s.thermal.readings[k] with fresh := false, timer := none } } }) ∧
     exec (.modulePresentLineChange z level) s = .next (with' { r with
       rawModule := level
       moduleTimer := if s.chassisReset = true ∨ r.rawModule = level then r.moduleTimer else some 20 }) ∧
     (r.moduleTimer = none → exec (.moduleDebounceExpiry z) s = .next s) ∧
     (r.moduleTimer ≠ none → r.rawModule = r.module →
       exec (.moduleDebounceExpiry z) s = .next (with' { r with moduleTimer := none }).finishEvent) ∧
     (r.moduleTimer ≠ none → r.rawModule = true → r.module = false →
       ∃ u : State, exec (.moduleDebounceExpiry z) s = .next u.finishEvent ∧
       (let duty := if r.limits.critical ≤ r.temperature then 1000
          else if r.manual = true then max r.limits.floor (min 1000 r.manualDuty) else max r.duty r.limits.floor
        u.thermal = { s.thermal with
          fans := fans { state := .ok, firstWindow := true }
          zones := s.thermal.zones.set z { r with
            module := true, moduleTimer := none, graceTimer := none, graceExpired := false, duty := duty
            lowDuty := r.lowDuty || decide (duty < 200) } } ∧
        (s.linkState e = .absent → u.linkState e = .contact) ∧ u.asked e .ident ∧
        (u.inventoryRecord e).state = .reading ∧ (u.inventoryRecord e).fields = none ∧
        u.budget.fanAllocations = s.budget.fanAllocations.set z
          (2 * ((r.wattsPerFan * duty ^ 3 + 999999999) / 1000000000)) ∧
        u.events = ((s.appendEvent (z.val + 17) .fan 0x0101).appendEvent (z.val + 17) .thermal 0x0006).events ∧
        u.slots = s.slots ∧ u.processorSide = s.processorSide)) ∧
     (r.moduleTimer ≠ none → r.rawModule = false → r.module = true →
       ∃ u : State, exec (.moduleDebounceExpiry z) s = .next u.finishEvent ∧
       u.thermal = { s.thermal with
         fans := fans {}
         readings := s.thermal.readings.set (moduleSource z) { s.thermal.readings[moduleSource z] with
           value := 0, fresh := false, timer := none }
         zones := s.thermal.zones.set z { r with
           module := false, moduleTimer := none, graceTimer := some (1000 * r.limits.grace), duty := 1000 } } ∧
       u.linkState e = .absent ∧ (u.inventoryRecord e).state = .absent ∧ (u.inventoryRecord e).fields = none ∧
       u.budget.fanAllocations = s.budget.fanAllocations.set z 0 ∧
       u.events = ((s.appendEvent (z.val + 17) .fan 0x0000).appendEvent (z.val + 17) .thermal 0x0004).events ∧
       u.slots = s.slots ∧ u.processorSide = s.processorSide) ∧
     (r.graceTimer = none → exec (.graceTimerExpiry z) s = .next s) ∧
     (r.graceTimer ≠ none → ((s.slot n).state.powered = true → n ∈ s.budget.admitted) →
       ∃ u : State, exec (.graceTimerExpiry z) s = .next u.finishEvent ∧
       u.thermal = { s.thermal with zones := s.thermal.zones.set z { r with graceTimer := none, graceExpired := true } } ∧
       (let reached : Bool := zoneOf n == z && ((s.slot n).state == .on || (s.slot n).state == .stopping)
        u.slot n = (if reached then (s.slot n).faulted .thermal else s.slot n) ∧
        (reached → (u.budgetRecord n).allocation = 0 ∧ n ∉ u.budget.admitted)) ∧
       (∃ d ∈ u.events.entries, d.source = z.val + 17 ∧ d.kind = .thermal ∧ d.detail.extractLsb' 0 8 = 5) ∧
       u.inventory = s.inventory ∧ u.processorSide = s.processorSide))

/-! ## Uplinks -/

/-- R161: the rework gives every blade the active uplink and failback timer of the selection table, each active blade
its share of the uplink's capacity, at most its port speed (R167), the shares of an uplink sum to no more than its
capacity, PINS is asked when the table changed and the switch can be reached, and nothing else changes. -/
def Obligations.ReworkSharesTheUplinks : Prop :=
  ∀ (s : State) (n : SlotId) (u : UplinkId),
    (let t := s.rework
     let old := s.uplinks.pins[n]
     let new := t.uplinks.pins[n]
     let members := allSlots.filter fun m => t.uplinks.pins[m].active = some u
     let weights := (members.map fun m => t.uplinks.pins[m].weight).sum
     t = { s with link := t.link, uplinks := { s.uplinks with pins := t.uplinks.pins } } ∧
     new = { old with active := new.active, rate := new.rate, failbackTimer := new.failbackTimer } ∧
     s.selects n old.failbackTimer new.active new.failbackTimer ∧
     (new.active = none → new.rate = 0) ∧
     (new.active = some u → new.rate = min new.portSpeed (s.uplinks.ports[u].capacity * new.weight / weights)) ∧
     (members.map fun m => t.uplinks.pins[m].rate).sum ≤ s.uplinks.ports[u].capacity ∧
     (new.active ≠ old.active ∨ new.rate ≠ old.rate → s.linkState 0 ≠ .absent → s.linkState 0 ≠ .lost → t.asked 0 .pins))

/-- R155 to R157, R163, R164, R171: a DOWN uplink comes UP at the end of its up hold-off, with its stand-ins' failback
timers started; an UP uplink goes DOWN at the end of its down hold-off or at a far-end fault, with its failback timers
cancelled; a speed change while UP takes the new capacity; each reports UPLINK. A line that keeps its level and a
timer that does not run do nothing (log 6, log 17); under the chassis reset line only levels are recorded (log 4). -/
def Obligations.UplinksFollowTheirLines : Prop :=
  ∀ (s : State) (u : UplinkId) (n : SlotId) (level : Bool) (code : Fin 4),
    (let r := s.uplinks.ports[u]
     let with' (q : Uplink) : State := { s with uplinks := { s.uplinks with ports := s.uplinks.ports.set u q } }
     let rate (c : Fin 4) : Nat := if c = 0 then 1000 else if c = 1 then 10000 else if c = 2 then 25000 else 50000
     let holdOff (link fault : Bool) : Timer := if link = true ∧ fault = false then some (r.upTimer.getD 1000) else none
     let down (fault : Bool) : State := { s with uplinks := { s.uplinks with
       ports := s.uplinks.ports.set u { r with
         fault := fault, up := false, capacity := 0, downTimer := none
         upTimer := if r.link = true ∧ fault = false then some 1000 else none }
       pins := s.uplinks.pins.map fun p : Pin => if p.preferred = some u then { p with failbackTimer := none } else p } }
     let up : State := { s with uplinks := { s.uplinks with
       ports := s.uplinks.ports.set u { r with up := true, capacity := rate r.speed, upTimer := none, downTimer := none }
       pins := Vector.ofFn fun n : SlotId => { s.pin n with
         failbackTimer :=
           if (s.slot n).state = .on ∧ (s.pin n).preferred = some u ∧ (s.pin n).active ≠ none ∧
               (s.pin n).active ≠ some u ∧ 0 < s.uplinks.failbackHold
             then some (1000 * s.uplinks.failbackHold) else (s.pin n).failbackTimer } } }
     (s.chassisReset = true ∨ r.link = level → exec (.uplinkLinkChange u level) s = .next (with' { r with link := level })) ∧
     (s.chassisReset = false → r.link ≠ level → exec (.uplinkLinkChange u level) s = .next (with' (if r.up = true
       then { r with link := level, downTimer := if level then none else some 300 }
       else { r with link := level, upTimer := holdOff level r.fault }))) ∧
     (s.chassisReset = true ∨ r.fault = level ∨ r.up = true ∧ level = false →
       exec (.farEndFaultChange u level) s = .next (with' { r with fault := level })) ∧
     (s.chassisReset = false → r.fault ≠ level → r.up = false → exec (.farEndFaultChange u level) s = .next
       (with' { r with fault := level, upTimer := holdOff r.link level })) ∧
     (s.chassisReset = false → r.fault = false → r.up = true → exec (.farEndFaultChange u true) s =
       .next ((down true).rework.appendEvent (u.val + 20) .uplink 0x0200)) ∧
     (r.up = false ∨ r.speed = code → exec (.speedLineChange u code) s = .next (with' { r with speed := code })) ∧
     (r.up = true → r.speed ≠ code → exec (.speedLineChange u code) s = .next
       ((with' { r with speed := code, capacity := rate code }).rerate.appendEvent (u.val + 20) .uplink 0x0301)) ∧
     (r.up = true ∨ r.upTimer = none → exec (.upHoldOffExpiry u) s = .next s) ∧
     (r.up = false → r.upTimer ≠ none → exec (.upHoldOffExpiry u) s =
       .next (up.rework.appendEvent (u.val + 20) .uplink 0x0101)) ∧
     (r.up = false ∨ r.downTimer = none → exec (.downHoldOffExpiry u) s = .next s) ∧
     (r.up = true → r.downTimer ≠ none → exec (.downHoldOffExpiry u) s =
       .next ((down r.fault).rework.appendEvent (u.val + 20) .uplink 0x0100)) ∧
     ((s.pin n).failbackTimer = none → exec (.failbackTimerExpiry n) s = .next s) ∧
     ((s.pin n).failbackTimer ≠ none → exec (.failbackTimerExpiry n) s = .next ({ s with uplinks := { s.uplinks with
       pins := s.uplinks.pins.set n { s.uplinks.pins[n] with failbackTimer := none } } }).rework))

/-! ## Figures and served rows -/

/-- R106: the capacity is the sum of the effective ratings of the OK supplies under NONE; that sum less the largest,
and 0 with fewer than two OK supplies, under N_PLUS_1; the smaller of the two feeds' sums under FEED_SPLIT. The
effective rating is the override, else the record's rating while it supplies fields, else 0 (R104). -/
def Obligations.CapacityFollowsTheMode : Prop :=
  ∀ (s : State) (i : BayId),
    (let rating (b : BayId) : Nat := match (s.supply b).override with
       | some w => w
       | none => match (s.inventoryRecord (supplyEndpoint b)).fields with
         | some q => if (s.inventoryRecord (supplyEndpoint b)).state = .valid ∨
             (s.inventoryRecord (supplyEndpoint b)).state = .reading then q.field1 else 0
         | none => 0
     let ok (b : BayId) : Bool := (s.supply b).present && (s.supply b).ok
     let share (b : BayId) : Nat := if ok b then rating b else 0
     let total := share 0 + share 1 + share 2 + share 3
     s.effectiveRating i = rating i ∧
     (s.budget.redundancy = .none → s.capacity = total) ∧
     (s.budget.redundancy = .nPlusOne →
       ((∃ b c : BayId, b ≠ c ∧ ok b ∧ ok c) → ok i → (∀ b, ok b → rating b ≤ rating i) → s.capacity + rating i = total) ∧
       (¬(∃ b c : BayId, b ≠ c ∧ ok b ∧ ok c) → s.capacity = 0)) ∧
     (s.budget.redundancy = .feedSplit → s.capacity = min (share 0 + share 1) (share 2 + share 3)))

/-- At the columns of 2.8.3 and 2.8.4 the status row shows the path state, the queue depth, the completions, the
presence and changed masks, slot states, allocations, readings, supply states, zone temperatures and duties, fan
states, uplink capacities, target rates and the budget figures once one evaluation has been made (before it: log 30);
the catalogue row shows record states, the view, the event count, mask, attention line and entries. -/
def Obligations.ServedRowsShowTheRecords : Prop :=
  ∀ (s : State) (c : CommandSlot) (n : SlotId) (i : BayId) (z : ZoneId) (f : FanId) (u : UplinkId) (e : Endpoint) (k : Nat)
    (d : EventEntry),
    (let status (column : Nat) : Word := s.statusRow.getD column 0
     let catalogue (column : Nat) : Word := s.catalogueRow.getD column 0
     s.statusRow.length = 472 ∧
     status 0 = BitVec.ofNat 16 s.path.state.code ∧ status 3 = BitVec.ofNat 16 s.window.queue.length ∧
     status (8 + 2 * c.val) = s.window.completions[c].result ++ s.window.completions[c].tag ∧
     status (9 + 2 * c.val) = s.window.completions[c].detail ∧
     (n.val < 12 → (status 72).getLsbD n.val = (s.slot n).presence) ∧
     status 73 = status 72 ^^^ s.window.latchedPresence.setWidth 16 ∧
     status (80 + 16 * n.val) = BitVec.ofNat 16 (s.slot n).state.code ∧
     status (88 + 16 * n.val) = BitVec.ofNat 16 (s.budgetRecord n).allocation ∧
     status (94 + 16 * n.val) = BitVec.ofInt 16 (s.reading (bladeSource n)).value ∧
     status (272 + 8 * i.val) = BitVec.ofNat 16 (s.supply i).state.code ∧
     status (305 + 16 * z.val) = BitVec.ofInt 16 (s.zone z).temperature ∧
     status (306 + 16 * z.val) = BitVec.ofNat 16 (s.zone z).duty ∧
     status (352 + 4 * f.val) = BitVec.ofNat 16 (s.fan f).state.code ∧
     status (377 + 8 * u.val) = BitVec.ofNat 16 (s.port u).capacity ∧
     status (410 + 4 * n.val) = BitVec.ofNat 16 (s.pin n).rate ∧
     (s.budget.figuresShown = true →
       status 457 = BitVec.ofNat 16 s.capacity ∧ status 460 = BitVec.ofNat 16 s.commitment ∧
       status 461 = BitVec.ofNat 16 s.projectedCommitment ∧ status 462 = BitVec.ofInt 16 s.headroom ∧
       status 463 = BitVec.ofInt 16 s.projectedHeadroom) ∧
     (catalogue (16 * e.val)).extractLsb' 0 8 = BitVec.ofNat 8 (s.inventoryRecord e).state.code ∧
     catalogue 320 = BitVec.ofNat 16 s.inventory.viewEndpoint.val ∧ catalogue 321 = BitVec.ofNat 16 s.inventory.viewPage ∧
     catalogue 388 = BitVec.ofNat 16 s.events.entries.length ∧ catalogue 389 = s.events.mask.setWidth 16 ∧
     catalogue 390 = (if s.attentionLine then 1 else 0) ∧
     (s.events.entries[k]? = some d →
       catalogue (396 + 4 * k) = BitVec.ofNat 16 d.source ∧ catalogue (397 + 4 * k) = BitVec.ofNat 16 (kindCode d.kind) ∧
       catalogue (398 + 4 * k) = BitVec.ofNat 16 d.count ∧ catalogue (399 + 4 * k) = d.detail))

end
end

