-- ==== Sys2Proof/Laws/Memory.lean ====
section
/-! SUPPORT. The shadow's byte memory: a write keeps the canonical form, is read back, and leaves every other byte; and
what an append leaves in the Event List. -/

namespace Sys2Proof.Machine

/-! ## Reads after writes -/

/-- R17: the byte written is read back. -/
theorem Memory.read_write_same (m : List Host.Cell) (a : Nat) (b : Byte) (h : Memory.wf m = true) :
    Memory.read (Memory.write m a b) a = b := by
  induction m with
  | nil => unfold Memory.write; split <;> simp_all [Memory.read]
  | cons c rest ih =>
    obtain ⟨k, v⟩ := c
    simp only [Memory.wf, Bool.and_eq_true] at h
    have absent : ∀ l : List Host.Cell, (∀ c ∈ l, k < c.1) → ∀ x ≤ k, Memory.read l x = 0 := by
      intro l
      induction l with
      | nil => intros; rfl
      | cons d l ihl =>
        intro hl x hx
        obtain ⟨j, w⟩ := d
        have hj := hl (j, w) (by simp)
        simp only [Memory.read]
        rw [if_neg (by simp at hj; omega)]
        exact ihl (fun c hc => hl c (by simp [hc])) x hx
    have hrest : ∀ c ∈ rest, k < c.1 := by
      have := h.1.2
      simpa [List.all_eq_true] using this
    simp only [Memory.write]
    split
    · split
      · next hb =>
        subst hb
        simp only [Memory.read]
        rw [if_neg (by omega)]
        exact absent rest hrest a (by omega)
      · simp [Memory.read]
    · split
      · next hak =>
        subst hak
        split
        · next hb => subst hb; exact absent rest hrest a (Nat.le_refl _)
        · simp [Memory.read]
      · simp only [Memory.read]
        rw [if_neg (by omega)]
        exact ih h.2

/-- R17: a write leaves every other byte. -/
theorem Memory.read_write_other (m : List Host.Cell) (a x : Nat) (b : Byte) (hx : x ≠ a) :
    Memory.read (Memory.write m a b) x = Memory.read m x := by
  induction m with
  | nil =>
    unfold Memory.write
    split
    · rfl
    · simp only [Memory.read]; rw [if_neg (by omega)]
  | cons c rest ih =>
    obtain ⟨k, v⟩ := c
    simp only [Memory.write]
    split
    · split
      · rfl
      · rw [Memory.read, if_neg (by omega)]
    · split
      · next h =>
        subst h
        split
        · rw [Memory.read, if_neg (by omega)]
        · rw [Memory.read, Memory.read, if_neg (by omega), if_neg (by omega)]
      · rw [Memory.read, Memory.read, ih]

/-! ## The canonical form -/

/-- A write lists no address but those listed and its own. -/
theorem Memory.write_addresses (m : List Host.Cell) (a : Nat) (b : Byte) (c : Host.Cell)
    (hc : c ∈ Memory.write m a b) : c.1 = a ∨ c ∈ m := by
  induction m with
  | nil =>
    unfold Memory.write at hc
    split at hc
    · simp at hc
    · simp at hc; simp [hc]
  | cons d rest ih =>
    obtain ⟨k, v⟩ := d
    simp only [Memory.write] at hc
    (repeat' split at hc) <;> simp only [List.mem_cons] at hc ⊢ <;> grind

/-- A write keeps the canonical form. -/
theorem Memory.write_wf (m : List Host.Cell) (a : Nat) (b : Byte) (h : Memory.wf m = true) :
    Memory.wf (Memory.write m a b) = true := by
  induction m with
  | nil => unfold Memory.write; split <;> simp_all [Memory.wf]
  | cons c rest ih =>
    obtain ⟨k, v⟩ := c
    have h' := h
    simp only [Memory.wf, Bool.and_eq_true, List.all_eq_true, decide_eq_true_eq] at h
    obtain ⟨⟨hv, hk⟩, hr⟩ := h
    simp only [Memory.write]
    split
    · split
      · exact h'
      · next hb =>
        simp only [Memory.wf, Bool.and_eq_true, List.all_eq_true, decide_eq_true_eq, List.mem_cons]
        refine ⟨⟨by simpa using hb, ?_⟩, ⟨hv, hk⟩, hr⟩
        rintro c (rfl | hc)
        · omega
        · have := hk c hc; omega
    · split
      · next hak =>
        subst hak
        split
        · exact hr
        · next hb =>
          simp only [Memory.wf, Bool.and_eq_true, List.all_eq_true, decide_eq_true_eq]
          exact ⟨⟨by simpa using hb, hk⟩, hr⟩
      · simp only [Memory.wf, Bool.and_eq_true, List.all_eq_true, decide_eq_true_eq]
        refine ⟨⟨hv, ?_⟩, ih hr⟩
        intro c hc
        rcases Memory.write_addresses _ _ _ _ hc with h1 | h1
        · omega
        · exact hk c h1

/-- R17: writing the lanes of a word keeps the canonical form. -/
theorem writeLanes_wf (m : List Host.Cell) (column : Nat) (l : Lanes) (h : Memory.wf m = true) :
    Memory.wf (writeLanes m column l) = true := by
  unfold writeLanes
  simp only
  (repeat' split) <;> first | exact h | (repeat apply Memory.write_wf) <;> exact h

/-- R33: the memory of State.reset has the canonical form. -/
theorem reset_shadow_wf : Memory.wf State.reset.window.shadow = true := rfl

/-- R17: a capture keeps the canonical form. -/
theorem State.captureWord_wf (s : State) (c : Nat) (l : Lanes) (h : Memory.wf s.window.shadow = true) :
    Memory.wf (s.captureWord c l).window.shadow = true := by
  unfold State.captureWord State.updateWindow
  simp only
  split
  · exact writeLanes_wf _ _ _ h
  · exact h

/-! ## The Event List (R175) -/

/-- R175: an append lists no entry but those listed and one of its source and kind. -/
theorem appendEntry_mem (l : List EventEntry) (source : Nat) (kind : EventKind) (detail : Word) (e : EventEntry)
    (he : e ∈ appendEntry l source kind detail) : (e.source = source ∧ e.kind = kind) ∨ e ∈ l := by
  induction l with
  | nil => simp [appendEntry] at he; simp [he]
  | cons d rest ih =>
    simp only [appendEntry] at he
    split at he
    · next hm =>
      simp only [EventEntry.matches, Bool.and_eq_true, beq_iff_eq] at hm
      simp only [List.mem_cons] at he ⊢
      rcases he with rfl | he
      · exact .inl hm
      · exact .inr (.inr he)
    · simp only [List.mem_cons] at he ⊢
      rcases he with rfl | he
      · exact .inr (.inl rfl)
      · rcases ih he with h | h
        · exact .inl h
        · exact .inr (.inr h)

end Sys2Proof.Machine
end

