-- ==== Sys2Proof/Laws/State.lean ====
section
/-! SUPPORT. One lemma per field of State for each named update: what it holds and that every other field is as it was,
and the reading of a record after its update. -/

namespace Sys2Proof.Machine

/-! ## updateSlot -/

@[simp] theorem State.updateSlot_pending (s : State) (n : SlotId) (f : SlotRecord → SlotRecord) :
    (s.updateSlot n f).pending = s.pending := rfl
@[simp] theorem State.updateSlot_chassisReset (s : State) (n : SlotId) (f : SlotRecord → SlotRecord) :
    (s.updateSlot n f).chassisReset = s.chassisReset := rfl
@[simp] theorem State.updateSlot_processorReset (s : State) (n : SlotId) (f : SlotRecord → SlotRecord) :
    (s.updateSlot n f).processorReset = s.processorReset := rfl
@[simp] theorem State.updateSlot_straps (s : State) (n : SlotId) (f : SlotRecord → SlotRecord) :
    (s.updateSlot n f).straps = s.straps := rfl
@[simp] theorem State.updateSlot_path (s : State) (n : SlotId) (f : SlotRecord → SlotRecord) :
    (s.updateSlot n f).path = s.path := rfl
@[simp] theorem State.updateSlot_window (s : State) (n : SlotId) (f : SlotRecord → SlotRecord) :
    (s.updateSlot n f).window = s.window := rfl
@[simp] theorem State.updateSlot_link (s : State) (n : SlotId) (f : SlotRecord → SlotRecord) :
    (s.updateSlot n f).link = s.link := rfl
@[simp] theorem State.updateSlot_inventory (s : State) (n : SlotId) (f : SlotRecord → SlotRecord) :
    (s.updateSlot n f).inventory = s.inventory := rfl
@[simp] theorem State.updateSlot_slots (s : State) (n : SlotId) (f : SlotRecord → SlotRecord) :
    (s.updateSlot n f).slots = s.slots.set n (f s.slots[n]) := rfl
@[simp] theorem State.updateSlot_budget (s : State) (n : SlotId) (f : SlotRecord → SlotRecord) :
    (s.updateSlot n f).budget = s.budget := rfl
@[simp] theorem State.updateSlot_thermal (s : State) (n : SlotId) (f : SlotRecord → SlotRecord) :
    (s.updateSlot n f).thermal = s.thermal := rfl
@[simp] theorem State.updateSlot_uplinks (s : State) (n : SlotId) (f : SlotRecord → SlotRecord) :
    (s.updateSlot n f).uplinks = s.uplinks := rfl
@[simp] theorem State.updateSlot_events (s : State) (n : SlotId) (f : SlotRecord → SlotRecord) :
    (s.updateSlot n f).events = s.events := rfl

/-! ## updatePath -/

@[simp] theorem State.updatePath_pending (s : State) (f : Path → Path) : (s.updatePath f).pending = s.pending := rfl
@[simp] theorem State.updatePath_chassisReset (s : State) (f : Path → Path) :
    (s.updatePath f).chassisReset = s.chassisReset := rfl
@[simp] theorem State.updatePath_processorReset (s : State) (f : Path → Path) :
    (s.updatePath f).processorReset = s.processorReset := rfl
@[simp] theorem State.updatePath_straps (s : State) (f : Path → Path) : (s.updatePath f).straps = s.straps := rfl
@[simp] theorem State.updatePath_path (s : State) (f : Path → Path) : (s.updatePath f).path = f s.path := rfl
@[simp] theorem State.updatePath_window (s : State) (f : Path → Path) : (s.updatePath f).window = s.window := rfl
@[simp] theorem State.updatePath_link (s : State) (f : Path → Path) : (s.updatePath f).link = s.link := rfl
@[simp] theorem State.updatePath_inventory (s : State) (f : Path → Path) :
    (s.updatePath f).inventory = s.inventory := rfl
@[simp] theorem State.updatePath_slots (s : State) (f : Path → Path) : (s.updatePath f).slots = s.slots := rfl
@[simp] theorem State.updatePath_budget (s : State) (f : Path → Path) : (s.updatePath f).budget = s.budget := rfl
@[simp] theorem State.updatePath_thermal (s : State) (f : Path → Path) : (s.updatePath f).thermal = s.thermal := rfl
@[simp] theorem State.updatePath_uplinks (s : State) (f : Path → Path) : (s.updatePath f).uplinks = s.uplinks := rfl
@[simp] theorem State.updatePath_events (s : State) (f : Path → Path) : (s.updatePath f).events = s.events := rfl

/-! ## setBank -/

@[simp] theorem State.setBank_pending (s : State) (b : BankId) (r : Bank) : (s.setBank b r).pending = s.pending := rfl
@[simp] theorem State.setBank_chassisReset (s : State) (b : BankId) (r : Bank) :
    (s.setBank b r).chassisReset = s.chassisReset := rfl
@[simp] theorem State.setBank_processorReset (s : State) (b : BankId) (r : Bank) :
    (s.setBank b r).processorReset = s.processorReset := rfl
@[simp] theorem State.setBank_straps (s : State) (b : BankId) (r : Bank) : (s.setBank b r).straps = s.straps := rfl
@[simp] theorem State.setBank_path (s : State) (b : BankId) (r : Bank) :
    (s.setBank b r).path = { s.path with banks := s.path.banks.set b r } := rfl
@[simp] theorem State.setBank_window (s : State) (b : BankId) (r : Bank) : (s.setBank b r).window = s.window := rfl
@[simp] theorem State.setBank_link (s : State) (b : BankId) (r : Bank) : (s.setBank b r).link = s.link := rfl
@[simp] theorem State.setBank_inventory (s : State) (b : BankId) (r : Bank) :
    (s.setBank b r).inventory = s.inventory := rfl
@[simp] theorem State.setBank_slots (s : State) (b : BankId) (r : Bank) : (s.setBank b r).slots = s.slots := rfl
@[simp] theorem State.setBank_budget (s : State) (b : BankId) (r : Bank) : (s.setBank b r).budget = s.budget := rfl
@[simp] theorem State.setBank_thermal (s : State) (b : BankId) (r : Bank) : (s.setBank b r).thermal = s.thermal := rfl
@[simp] theorem State.setBank_uplinks (s : State) (b : BankId) (r : Bank) : (s.setBank b r).uplinks = s.uplinks := rfl
@[simp] theorem State.setBank_events (s : State) (b : BankId) (r : Bank) : (s.setBank b r).events = s.events := rfl

/-! ## updateWindow -/

@[simp] theorem State.updateWindow_pending (s : State) (f : Window → Window) :
    (s.updateWindow f).pending = s.pending := rfl
@[simp] theorem State.updateWindow_chassisReset (s : State) (f : Window → Window) :
    (s.updateWindow f).chassisReset = s.chassisReset := rfl
@[simp] theorem State.updateWindow_processorReset (s : State) (f : Window → Window) :
    (s.updateWindow f).processorReset = s.processorReset := rfl
@[simp] theorem State.updateWindow_straps (s : State) (f : Window → Window) :
    (s.updateWindow f).straps = s.straps := rfl
@[simp] theorem State.updateWindow_path (s : State) (f : Window → Window) : (s.updateWindow f).path = s.path := rfl
@[simp] theorem State.updateWindow_window (s : State) (f : Window → Window) :
    (s.updateWindow f).window = f s.window := rfl
@[simp] theorem State.updateWindow_link (s : State) (f : Window → Window) : (s.updateWindow f).link = s.link := rfl
@[simp] theorem State.updateWindow_inventory (s : State) (f : Window → Window) :
    (s.updateWindow f).inventory = s.inventory := rfl
@[simp] theorem State.updateWindow_slots (s : State) (f : Window → Window) : (s.updateWindow f).slots = s.slots := rfl
@[simp] theorem State.updateWindow_budget (s : State) (f : Window → Window) :
    (s.updateWindow f).budget = s.budget := rfl
@[simp] theorem State.updateWindow_thermal (s : State) (f : Window → Window) :
    (s.updateWindow f).thermal = s.thermal := rfl
@[simp] theorem State.updateWindow_uplinks (s : State) (f : Window → Window) :
    (s.updateWindow f).uplinks = s.uplinks := rfl
@[simp] theorem State.updateWindow_events (s : State) (f : Window → Window) :
    (s.updateWindow f).events = s.events := rfl

/-! ## updateLink -/

@[simp] theorem State.updateLink_pending (s : State) (f : LinkEngine → LinkEngine) :
    (s.updateLink f).pending = s.pending := rfl
@[simp] theorem State.updateLink_chassisReset (s : State) (f : LinkEngine → LinkEngine) :
    (s.updateLink f).chassisReset = s.chassisReset := rfl
@[simp] theorem State.updateLink_processorReset (s : State) (f : LinkEngine → LinkEngine) :
    (s.updateLink f).processorReset = s.processorReset := rfl
@[simp] theorem State.updateLink_straps (s : State) (f : LinkEngine → LinkEngine) :
    (s.updateLink f).straps = s.straps := rfl
@[simp] theorem State.updateLink_path (s : State) (f : LinkEngine → LinkEngine) :
    (s.updateLink f).path = s.path := rfl
@[simp] theorem State.updateLink_window (s : State) (f : LinkEngine → LinkEngine) :
    (s.updateLink f).window = s.window := rfl
@[simp] theorem State.updateLink_link (s : State) (f : LinkEngine → LinkEngine) :
    (s.updateLink f).link = f s.link := rfl
@[simp] theorem State.updateLink_inventory (s : State) (f : LinkEngine → LinkEngine) :
    (s.updateLink f).inventory = s.inventory := rfl
@[simp] theorem State.updateLink_slots (s : State) (f : LinkEngine → LinkEngine) :
    (s.updateLink f).slots = s.slots := rfl
@[simp] theorem State.updateLink_budget (s : State) (f : LinkEngine → LinkEngine) :
    (s.updateLink f).budget = s.budget := rfl
@[simp] theorem State.updateLink_thermal (s : State) (f : LinkEngine → LinkEngine) :
    (s.updateLink f).thermal = s.thermal := rfl
@[simp] theorem State.updateLink_uplinks (s : State) (f : LinkEngine → LinkEngine) :
    (s.updateLink f).uplinks = s.uplinks := rfl
@[simp] theorem State.updateLink_events (s : State) (f : LinkEngine → LinkEngine) :
    (s.updateLink f).events = s.events := rfl

/-! ## updateLinkRecord -/

@[simp] theorem State.updateLinkRecord_pending (s : State) (e : Endpoint) (f : LinkRecord → LinkRecord) :
    (s.updateLinkRecord e f).pending = s.pending := rfl
@[simp] theorem State.updateLinkRecord_chassisReset (s : State) (e : Endpoint) (f : LinkRecord → LinkRecord) :
    (s.updateLinkRecord e f).chassisReset = s.chassisReset := rfl
@[simp] theorem State.updateLinkRecord_processorReset (s : State) (e : Endpoint) (f : LinkRecord → LinkRecord) :
    (s.updateLinkRecord e f).processorReset = s.processorReset := rfl
@[simp] theorem State.updateLinkRecord_straps (s : State) (e : Endpoint) (f : LinkRecord → LinkRecord) :
    (s.updateLinkRecord e f).straps = s.straps := rfl
@[simp] theorem State.updateLinkRecord_path (s : State) (e : Endpoint) (f : LinkRecord → LinkRecord) :
    (s.updateLinkRecord e f).path = s.path := rfl
@[simp] theorem State.updateLinkRecord_window (s : State) (e : Endpoint) (f : LinkRecord → LinkRecord) :
    (s.updateLinkRecord e f).window = s.window := rfl
@[simp] theorem State.updateLinkRecord_link (s : State) (e : Endpoint) (f : LinkRecord → LinkRecord) :
    (s.updateLinkRecord e f).link = { s.link with records := s.link.records.set e (f s.link.records[e]) } := rfl
@[simp] theorem State.updateLinkRecord_inventory (s : State) (e : Endpoint) (f : LinkRecord → LinkRecord) :
    (s.updateLinkRecord e f).inventory = s.inventory := rfl
@[simp] theorem State.updateLinkRecord_slots (s : State) (e : Endpoint) (f : LinkRecord → LinkRecord) :
    (s.updateLinkRecord e f).slots = s.slots := rfl
@[simp] theorem State.updateLinkRecord_budget (s : State) (e : Endpoint) (f : LinkRecord → LinkRecord) :
    (s.updateLinkRecord e f).budget = s.budget := rfl
@[simp] theorem State.updateLinkRecord_thermal (s : State) (e : Endpoint) (f : LinkRecord → LinkRecord) :
    (s.updateLinkRecord e f).thermal = s.thermal := rfl
@[simp] theorem State.updateLinkRecord_uplinks (s : State) (e : Endpoint) (f : LinkRecord → LinkRecord) :
    (s.updateLinkRecord e f).uplinks = s.uplinks := rfl
@[simp] theorem State.updateLinkRecord_events (s : State) (e : Endpoint) (f : LinkRecord → LinkRecord) :
    (s.updateLinkRecord e f).events = s.events := rfl

/-! ## updateInventory -/

@[simp] theorem State.updateInventory_pending (s : State) (f : Inventory → Inventory) :
    (s.updateInventory f).pending = s.pending := rfl
@[simp] theorem State.updateInventory_chassisReset (s : State) (f : Inventory → Inventory) :
    (s.updateInventory f).chassisReset = s.chassisReset := rfl
@[simp] theorem State.updateInventory_processorReset (s : State) (f : Inventory → Inventory) :
    (s.updateInventory f).processorReset = s.processorReset := rfl
@[simp] theorem State.updateInventory_straps (s : State) (f : Inventory → Inventory) :
    (s.updateInventory f).straps = s.straps := rfl
@[simp] theorem State.updateInventory_path (s : State) (f : Inventory → Inventory) :
    (s.updateInventory f).path = s.path := rfl
@[simp] theorem State.updateInventory_window (s : State) (f : Inventory → Inventory) :
    (s.updateInventory f).window = s.window := rfl
@[simp] theorem State.updateInventory_link (s : State) (f : Inventory → Inventory) :
    (s.updateInventory f).link = s.link := rfl
@[simp] theorem State.updateInventory_inventory (s : State) (f : Inventory → Inventory) :
    (s.updateInventory f).inventory = f s.inventory := rfl
@[simp] theorem State.updateInventory_slots (s : State) (f : Inventory → Inventory) :
    (s.updateInventory f).slots = s.slots := rfl
@[simp] theorem State.updateInventory_budget (s : State) (f : Inventory → Inventory) :
    (s.updateInventory f).budget = s.budget := rfl
@[simp] theorem State.updateInventory_thermal (s : State) (f : Inventory → Inventory) :
    (s.updateInventory f).thermal = s.thermal := rfl
@[simp] theorem State.updateInventory_uplinks (s : State) (f : Inventory → Inventory) :
    (s.updateInventory f).uplinks = s.uplinks := rfl
@[simp] theorem State.updateInventory_events (s : State) (f : Inventory → Inventory) :
    (s.updateInventory f).events = s.events := rfl

/-! ## updateInventoryRecord -/

@[simp] theorem State.updateInventoryRecord_pending (s : State) (e : Endpoint) (f : InventoryRecord → InventoryRecord) :
    (s.updateInventoryRecord e f).pending = s.pending := rfl
@[simp] theorem State.updateInventoryRecord_chassisReset (s : State) (e : Endpoint) (f : InventoryRecord → InventoryRecord) :
    (s.updateInventoryRecord e f).chassisReset = s.chassisReset := rfl
@[simp] theorem State.updateInventoryRecord_processorReset (s : State) (e : Endpoint) (f : InventoryRecord → InventoryRecord) :
    (s.updateInventoryRecord e f).processorReset = s.processorReset := rfl
@[simp] theorem State.updateInventoryRecord_straps (s : State) (e : Endpoint) (f : InventoryRecord → InventoryRecord) :
    (s.updateInventoryRecord e f).straps = s.straps := rfl
@[simp] theorem State.updateInventoryRecord_path (s : State) (e : Endpoint) (f : InventoryRecord → InventoryRecord) :
    (s.updateInventoryRecord e f).path = s.path := rfl
@[simp] theorem State.updateInventoryRecord_window (s : State) (e : Endpoint) (f : InventoryRecord → InventoryRecord) :
    (s.updateInventoryRecord e f).window = s.window := rfl
@[simp] theorem State.updateInventoryRecord_link (s : State) (e : Endpoint) (f : InventoryRecord → InventoryRecord) :
    (s.updateInventoryRecord e f).link = s.link := rfl
@[simp] theorem State.updateInventoryRecord_inventory (s : State) (e : Endpoint) (f : InventoryRecord → InventoryRecord) :
    (s.updateInventoryRecord e f).inventory = { s.inventory with records := s.inventory.records.set e (f s.inventory.records[e]) } := rfl
@[simp] theorem State.updateInventoryRecord_slots (s : State) (e : Endpoint) (f : InventoryRecord → InventoryRecord) :
    (s.updateInventoryRecord e f).slots = s.slots := rfl
@[simp] theorem State.updateInventoryRecord_budget (s : State) (e : Endpoint) (f : InventoryRecord → InventoryRecord) :
    (s.updateInventoryRecord e f).budget = s.budget := rfl
@[simp] theorem State.updateInventoryRecord_thermal (s : State) (e : Endpoint) (f : InventoryRecord → InventoryRecord) :
    (s.updateInventoryRecord e f).thermal = s.thermal := rfl
@[simp] theorem State.updateInventoryRecord_uplinks (s : State) (e : Endpoint) (f : InventoryRecord → InventoryRecord) :
    (s.updateInventoryRecord e f).uplinks = s.uplinks := rfl
@[simp] theorem State.updateInventoryRecord_events (s : State) (e : Endpoint) (f : InventoryRecord → InventoryRecord) :
    (s.updateInventoryRecord e f).events = s.events := rfl

/-! ## updateBudget -/

@[simp] theorem State.updateBudget_pending (s : State) (f : Budget → Budget) :
    (s.updateBudget f).pending = s.pending := rfl
@[simp] theorem State.updateBudget_chassisReset (s : State) (f : Budget → Budget) :
    (s.updateBudget f).chassisReset = s.chassisReset := rfl
@[simp] theorem State.updateBudget_processorReset (s : State) (f : Budget → Budget) :
    (s.updateBudget f).processorReset = s.processorReset := rfl
@[simp] theorem State.updateBudget_straps (s : State) (f : Budget → Budget) :
    (s.updateBudget f).straps = s.straps := rfl
@[simp] theorem State.updateBudget_path (s : State) (f : Budget → Budget) : (s.updateBudget f).path = s.path := rfl
@[simp] theorem State.updateBudget_window (s : State) (f : Budget → Budget) :
    (s.updateBudget f).window = s.window := rfl
@[simp] theorem State.updateBudget_link (s : State) (f : Budget → Budget) : (s.updateBudget f).link = s.link := rfl
@[simp] theorem State.updateBudget_inventory (s : State) (f : Budget → Budget) :
    (s.updateBudget f).inventory = s.inventory := rfl
@[simp] theorem State.updateBudget_slots (s : State) (f : Budget → Budget) : (s.updateBudget f).slots = s.slots := rfl
@[simp] theorem State.updateBudget_budget (s : State) (f : Budget → Budget) :
    (s.updateBudget f).budget = f s.budget := rfl
@[simp] theorem State.updateBudget_thermal (s : State) (f : Budget → Budget) :
    (s.updateBudget f).thermal = s.thermal := rfl
@[simp] theorem State.updateBudget_uplinks (s : State) (f : Budget → Budget) :
    (s.updateBudget f).uplinks = s.uplinks := rfl
@[simp] theorem State.updateBudget_events (s : State) (f : Budget → Budget) :
    (s.updateBudget f).events = s.events := rfl

/-! ## updateSupply -/

@[simp] theorem State.updateSupply_pending (s : State) (i : BayId) (f : Supply → Supply) :
    (s.updateSupply i f).pending = s.pending := rfl
@[simp] theorem State.updateSupply_chassisReset (s : State) (i : BayId) (f : Supply → Supply) :
    (s.updateSupply i f).chassisReset = s.chassisReset := rfl
@[simp] theorem State.updateSupply_processorReset (s : State) (i : BayId) (f : Supply → Supply) :
    (s.updateSupply i f).processorReset = s.processorReset := rfl
@[simp] theorem State.updateSupply_straps (s : State) (i : BayId) (f : Supply → Supply) :
    (s.updateSupply i f).straps = s.straps := rfl
@[simp] theorem State.updateSupply_path (s : State) (i : BayId) (f : Supply → Supply) :
    (s.updateSupply i f).path = s.path := rfl
@[simp] theorem State.updateSupply_window (s : State) (i : BayId) (f : Supply → Supply) :
    (s.updateSupply i f).window = s.window := rfl
@[simp] theorem State.updateSupply_link (s : State) (i : BayId) (f : Supply → Supply) :
    (s.updateSupply i f).link = s.link := rfl
@[simp] theorem State.updateSupply_inventory (s : State) (i : BayId) (f : Supply → Supply) :
    (s.updateSupply i f).inventory = s.inventory := rfl
@[simp] theorem State.updateSupply_slots (s : State) (i : BayId) (f : Supply → Supply) :
    (s.updateSupply i f).slots = s.slots := rfl
@[simp] theorem State.updateSupply_budget (s : State) (i : BayId) (f : Supply → Supply) :
    (s.updateSupply i f).budget = { s.budget with supplies := s.budget.supplies.set i (f s.budget.supplies[i]) } := rfl
@[simp] theorem State.updateSupply_thermal (s : State) (i : BayId) (f : Supply → Supply) :
    (s.updateSupply i f).thermal = s.thermal := rfl
@[simp] theorem State.updateSupply_uplinks (s : State) (i : BayId) (f : Supply → Supply) :
    (s.updateSupply i f).uplinks = s.uplinks := rfl
@[simp] theorem State.updateSupply_events (s : State) (i : BayId) (f : Supply → Supply) :
    (s.updateSupply i f).events = s.events := rfl

/-! ## updateBudgetRecord -/

@[simp] theorem State.updateBudgetRecord_pending (s : State) (n : SlotId) (f : BudgetRecord → BudgetRecord) :
    (s.updateBudgetRecord n f).pending = s.pending := rfl
@[simp] theorem State.updateBudgetRecord_chassisReset (s : State) (n : SlotId) (f : BudgetRecord → BudgetRecord) :
    (s.updateBudgetRecord n f).chassisReset = s.chassisReset := rfl
@[simp] theorem State.updateBudgetRecord_processorReset (s : State) (n : SlotId) (f : BudgetRecord → BudgetRecord) :
    (s.updateBudgetRecord n f).processorReset = s.processorReset := rfl
@[simp] theorem State.updateBudgetRecord_straps (s : State) (n : SlotId) (f : BudgetRecord → BudgetRecord) :
    (s.updateBudgetRecord n f).straps = s.straps := rfl
@[simp] theorem State.updateBudgetRecord_path (s : State) (n : SlotId) (f : BudgetRecord → BudgetRecord) :
    (s.updateBudgetRecord n f).path = s.path := rfl
@[simp] theorem State.updateBudgetRecord_window (s : State) (n : SlotId) (f : BudgetRecord → BudgetRecord) :
    (s.updateBudgetRecord n f).window = s.window := rfl
@[simp] theorem State.updateBudgetRecord_link (s : State) (n : SlotId) (f : BudgetRecord → BudgetRecord) :
    (s.updateBudgetRecord n f).link = s.link := rfl
@[simp] theorem State.updateBudgetRecord_inventory (s : State) (n : SlotId) (f : BudgetRecord → BudgetRecord) :
    (s.updateBudgetRecord n f).inventory = s.inventory := rfl
@[simp] theorem State.updateBudgetRecord_slots (s : State) (n : SlotId) (f : BudgetRecord → BudgetRecord) :
    (s.updateBudgetRecord n f).slots = s.slots := rfl
@[simp] theorem State.updateBudgetRecord_budget (s : State) (n : SlotId) (f : BudgetRecord → BudgetRecord) :
    (s.updateBudgetRecord n f).budget = { s.budget with records := s.budget.records.set n (f s.budget.records[n]) } := rfl
@[simp] theorem State.updateBudgetRecord_thermal (s : State) (n : SlotId) (f : BudgetRecord → BudgetRecord) :
    (s.updateBudgetRecord n f).thermal = s.thermal := rfl
@[simp] theorem State.updateBudgetRecord_uplinks (s : State) (n : SlotId) (f : BudgetRecord → BudgetRecord) :
    (s.updateBudgetRecord n f).uplinks = s.uplinks := rfl
@[simp] theorem State.updateBudgetRecord_events (s : State) (n : SlotId) (f : BudgetRecord → BudgetRecord) :
    (s.updateBudgetRecord n f).events = s.events := rfl

/-! ## markEvaluation -/

@[simp] theorem State.markEvaluation_pending (s : State) : s.markEvaluation.pending = s.pending := rfl
@[simp] theorem State.markEvaluation_chassisReset (s : State) : s.markEvaluation.chassisReset = s.chassisReset := rfl
@[simp] theorem State.markEvaluation_processorReset (s : State) :
    s.markEvaluation.processorReset = s.processorReset := rfl
@[simp] theorem State.markEvaluation_straps (s : State) : s.markEvaluation.straps = s.straps := rfl
@[simp] theorem State.markEvaluation_path (s : State) : s.markEvaluation.path = s.path := rfl
@[simp] theorem State.markEvaluation_window (s : State) : s.markEvaluation.window = s.window := rfl
@[simp] theorem State.markEvaluation_link (s : State) : s.markEvaluation.link = s.link := rfl
@[simp] theorem State.markEvaluation_inventory (s : State) : s.markEvaluation.inventory = s.inventory := rfl
@[simp] theorem State.markEvaluation_slots (s : State) : s.markEvaluation.slots = s.slots := rfl
@[simp] theorem State.markEvaluation_budget (s : State) :
    s.markEvaluation.budget = { s.budget with evaluationDue := true } := rfl
@[simp] theorem State.markEvaluation_thermal (s : State) : s.markEvaluation.thermal = s.thermal := rfl
@[simp] theorem State.markEvaluation_uplinks (s : State) : s.markEvaluation.uplinks = s.uplinks := rfl
@[simp] theorem State.markEvaluation_events (s : State) : s.markEvaluation.events = s.events := rfl

/-! ## clearDue -/

@[simp] theorem State.clearDue_pending (s : State) : s.clearDue.pending = s.pending := rfl
@[simp] theorem State.clearDue_chassisReset (s : State) : s.clearDue.chassisReset = s.chassisReset := rfl
@[simp] theorem State.clearDue_processorReset (s : State) : s.clearDue.processorReset = s.processorReset := rfl
@[simp] theorem State.clearDue_straps (s : State) : s.clearDue.straps = s.straps := rfl
@[simp] theorem State.clearDue_path (s : State) : s.clearDue.path = s.path := rfl
@[simp] theorem State.clearDue_window (s : State) : s.clearDue.window = s.window := rfl
@[simp] theorem State.clearDue_link (s : State) : s.clearDue.link = s.link := rfl
@[simp] theorem State.clearDue_inventory (s : State) : s.clearDue.inventory = s.inventory := rfl
@[simp] theorem State.clearDue_slots (s : State) : s.clearDue.slots = s.slots := rfl
@[simp] theorem State.clearDue_budget (s : State) :
    s.clearDue.budget = { s.budget with evaluationDue := false } := rfl
@[simp] theorem State.clearDue_thermal (s : State) : s.clearDue.thermal = s.thermal := rfl
@[simp] theorem State.clearDue_uplinks (s : State) : s.clearDue.uplinks = s.uplinks := rfl
@[simp] theorem State.clearDue_events (s : State) : s.clearDue.events = s.events := rfl

/-! ## updateThermal -/

@[simp] theorem State.updateThermal_pending (s : State) (f : Thermal → Thermal) :
    (s.updateThermal f).pending = s.pending := rfl
@[simp] theorem State.updateThermal_chassisReset (s : State) (f : Thermal → Thermal) :
    (s.updateThermal f).chassisReset = s.chassisReset := rfl
@[simp] theorem State.updateThermal_processorReset (s : State) (f : Thermal → Thermal) :
    (s.updateThermal f).processorReset = s.processorReset := rfl
@[simp] theorem State.updateThermal_straps (s : State) (f : Thermal → Thermal) :
    (s.updateThermal f).straps = s.straps := rfl
@[simp] theorem State.updateThermal_path (s : State) (f : Thermal → Thermal) :
    (s.updateThermal f).path = s.path := rfl
@[simp] theorem State.updateThermal_window (s : State) (f : Thermal → Thermal) :
    (s.updateThermal f).window = s.window := rfl
@[simp] theorem State.updateThermal_link (s : State) (f : Thermal → Thermal) :
    (s.updateThermal f).link = s.link := rfl
@[simp] theorem State.updateThermal_inventory (s : State) (f : Thermal → Thermal) :
    (s.updateThermal f).inventory = s.inventory := rfl
@[simp] theorem State.updateThermal_slots (s : State) (f : Thermal → Thermal) :
    (s.updateThermal f).slots = s.slots := rfl
@[simp] theorem State.updateThermal_budget (s : State) (f : Thermal → Thermal) :
    (s.updateThermal f).budget = s.budget := rfl
@[simp] theorem State.updateThermal_thermal (s : State) (f : Thermal → Thermal) :
    (s.updateThermal f).thermal = f s.thermal := rfl
@[simp] theorem State.updateThermal_uplinks (s : State) (f : Thermal → Thermal) :
    (s.updateThermal f).uplinks = s.uplinks := rfl
@[simp] theorem State.updateThermal_events (s : State) (f : Thermal → Thermal) :
    (s.updateThermal f).events = s.events := rfl

/-! ## updateZone -/

@[simp] theorem State.updateZone_pending (s : State) (z : ZoneId) (f : Zone → Zone) :
    (s.updateZone z f).pending = s.pending := rfl
@[simp] theorem State.updateZone_chassisReset (s : State) (z : ZoneId) (f : Zone → Zone) :
    (s.updateZone z f).chassisReset = s.chassisReset := rfl
@[simp] theorem State.updateZone_processorReset (s : State) (z : ZoneId) (f : Zone → Zone) :
    (s.updateZone z f).processorReset = s.processorReset := rfl
@[simp] theorem State.updateZone_straps (s : State) (z : ZoneId) (f : Zone → Zone) :
    (s.updateZone z f).straps = s.straps := rfl
@[simp] theorem State.updateZone_path (s : State) (z : ZoneId) (f : Zone → Zone) :
    (s.updateZone z f).path = s.path := rfl
@[simp] theorem State.updateZone_window (s : State) (z : ZoneId) (f : Zone → Zone) :
    (s.updateZone z f).window = s.window := rfl
@[simp] theorem State.updateZone_link (s : State) (z : ZoneId) (f : Zone → Zone) :
    (s.updateZone z f).link = s.link := rfl
@[simp] theorem State.updateZone_inventory (s : State) (z : ZoneId) (f : Zone → Zone) :
    (s.updateZone z f).inventory = s.inventory := rfl
@[simp] theorem State.updateZone_slots (s : State) (z : ZoneId) (f : Zone → Zone) :
    (s.updateZone z f).slots = s.slots := rfl
@[simp] theorem State.updateZone_budget (s : State) (z : ZoneId) (f : Zone → Zone) :
    (s.updateZone z f).budget = s.budget := rfl
@[simp] theorem State.updateZone_thermal (s : State) (z : ZoneId) (f : Zone → Zone) :
    (s.updateZone z f).thermal = { s.thermal with zones := s.thermal.zones.set z (f s.thermal.zones[z]) } := rfl
@[simp] theorem State.updateZone_uplinks (s : State) (z : ZoneId) (f : Zone → Zone) :
    (s.updateZone z f).uplinks = s.uplinks := rfl
@[simp] theorem State.updateZone_events (s : State) (z : ZoneId) (f : Zone → Zone) :
    (s.updateZone z f).events = s.events := rfl

/-! ## updateFan -/

@[simp] theorem State.updateFan_pending (s : State) (i : FanId) (f : Fan → Fan) :
    (s.updateFan i f).pending = s.pending := rfl
@[simp] theorem State.updateFan_chassisReset (s : State) (i : FanId) (f : Fan → Fan) :
    (s.updateFan i f).chassisReset = s.chassisReset := rfl
@[simp] theorem State.updateFan_processorReset (s : State) (i : FanId) (f : Fan → Fan) :
    (s.updateFan i f).processorReset = s.processorReset := rfl
@[simp] theorem State.updateFan_straps (s : State) (i : FanId) (f : Fan → Fan) :
    (s.updateFan i f).straps = s.straps := rfl
@[simp] theorem State.updateFan_path (s : State) (i : FanId) (f : Fan → Fan) : (s.updateFan i f).path = s.path := rfl
@[simp] theorem State.updateFan_window (s : State) (i : FanId) (f : Fan → Fan) :
    (s.updateFan i f).window = s.window := rfl
@[simp] theorem State.updateFan_link (s : State) (i : FanId) (f : Fan → Fan) : (s.updateFan i f).link = s.link := rfl
@[simp] theorem State.updateFan_inventory (s : State) (i : FanId) (f : Fan → Fan) :
    (s.updateFan i f).inventory = s.inventory := rfl
@[simp] theorem State.updateFan_slots (s : State) (i : FanId) (f : Fan → Fan) :
    (s.updateFan i f).slots = s.slots := rfl
@[simp] theorem State.updateFan_budget (s : State) (i : FanId) (f : Fan → Fan) :
    (s.updateFan i f).budget = s.budget := rfl
@[simp] theorem State.updateFan_thermal (s : State) (i : FanId) (f : Fan → Fan) :
    (s.updateFan i f).thermal = { s.thermal with fans := s.thermal.fans.set i (f s.thermal.fans[i]) } := rfl
@[simp] theorem State.updateFan_uplinks (s : State) (i : FanId) (f : Fan → Fan) :
    (s.updateFan i f).uplinks = s.uplinks := rfl
@[simp] theorem State.updateFan_events (s : State) (i : FanId) (f : Fan → Fan) :
    (s.updateFan i f).events = s.events := rfl

/-! ## updateReading -/

@[simp] theorem State.updateReading_pending (s : State) (r : SourceId) (f : Reading → Reading) :
    (s.updateReading r f).pending = s.pending := rfl
@[simp] theorem State.updateReading_chassisReset (s : State) (r : SourceId) (f : Reading → Reading) :
    (s.updateReading r f).chassisReset = s.chassisReset := rfl
@[simp] theorem State.updateReading_processorReset (s : State) (r : SourceId) (f : Reading → Reading) :
    (s.updateReading r f).processorReset = s.processorReset := rfl
@[simp] theorem State.updateReading_straps (s : State) (r : SourceId) (f : Reading → Reading) :
    (s.updateReading r f).straps = s.straps := rfl
@[simp] theorem State.updateReading_path (s : State) (r : SourceId) (f : Reading → Reading) :
    (s.updateReading r f).path = s.path := rfl
@[simp] theorem State.updateReading_window (s : State) (r : SourceId) (f : Reading → Reading) :
    (s.updateReading r f).window = s.window := rfl
@[simp] theorem State.updateReading_link (s : State) (r : SourceId) (f : Reading → Reading) :
    (s.updateReading r f).link = s.link := rfl
@[simp] theorem State.updateReading_inventory (s : State) (r : SourceId) (f : Reading → Reading) :
    (s.updateReading r f).inventory = s.inventory := rfl
@[simp] theorem State.updateReading_slots (s : State) (r : SourceId) (f : Reading → Reading) :
    (s.updateReading r f).slots = s.slots := rfl
@[simp] theorem State.updateReading_budget (s : State) (r : SourceId) (f : Reading → Reading) :
    (s.updateReading r f).budget = s.budget := rfl
@[simp] theorem State.updateReading_thermal (s : State) (r : SourceId) (f : Reading → Reading) :
    (s.updateReading r f).thermal = { s.thermal with readings := s.thermal.readings.set r (f s.thermal.readings[r]) } := rfl
@[simp] theorem State.updateReading_uplinks (s : State) (r : SourceId) (f : Reading → Reading) :
    (s.updateReading r f).uplinks = s.uplinks := rfl
@[simp] theorem State.updateReading_events (s : State) (r : SourceId) (f : Reading → Reading) :
    (s.updateReading r f).events = s.events := rfl

/-! ## updateUplinks -/

@[simp] theorem State.updateUplinks_pending (s : State) (f : Uplinks → Uplinks) :
    (s.updateUplinks f).pending = s.pending := rfl
@[simp] theorem State.updateUplinks_chassisReset (s : State) (f : Uplinks → Uplinks) :
    (s.updateUplinks f).chassisReset = s.chassisReset := rfl
@[simp] theorem State.updateUplinks_processorReset (s : State) (f : Uplinks → Uplinks) :
    (s.updateUplinks f).processorReset = s.processorReset := rfl
@[simp] theorem State.updateUplinks_straps (s : State) (f : Uplinks → Uplinks) :
    (s.updateUplinks f).straps = s.straps := rfl
@[simp] theorem State.updateUplinks_path (s : State) (f : Uplinks → Uplinks) :
    (s.updateUplinks f).path = s.path := rfl
@[simp] theorem State.updateUplinks_window (s : State) (f : Uplinks → Uplinks) :
    (s.updateUplinks f).window = s.window := rfl
@[simp] theorem State.updateUplinks_link (s : State) (f : Uplinks → Uplinks) :
    (s.updateUplinks f).link = s.link := rfl
@[simp] theorem State.updateUplinks_inventory (s : State) (f : Uplinks → Uplinks) :
    (s.updateUplinks f).inventory = s.inventory := rfl
@[simp] theorem State.updateUplinks_slots (s : State) (f : Uplinks → Uplinks) :
    (s.updateUplinks f).slots = s.slots := rfl
@[simp] theorem State.updateUplinks_budget (s : State) (f : Uplinks → Uplinks) :
    (s.updateUplinks f).budget = s.budget := rfl
@[simp] theorem State.updateUplinks_thermal (s : State) (f : Uplinks → Uplinks) :
    (s.updateUplinks f).thermal = s.thermal := rfl
@[simp] theorem State.updateUplinks_uplinks (s : State) (f : Uplinks → Uplinks) :
    (s.updateUplinks f).uplinks = f s.uplinks := rfl
@[simp] theorem State.updateUplinks_events (s : State) (f : Uplinks → Uplinks) :
    (s.updateUplinks f).events = s.events := rfl

/-! ## updatePort -/

@[simp] theorem State.updatePort_pending (s : State) (u : UplinkId) (f : Uplink → Uplink) :
    (s.updatePort u f).pending = s.pending := rfl
@[simp] theorem State.updatePort_chassisReset (s : State) (u : UplinkId) (f : Uplink → Uplink) :
    (s.updatePort u f).chassisReset = s.chassisReset := rfl
@[simp] theorem State.updatePort_processorReset (s : State) (u : UplinkId) (f : Uplink → Uplink) :
    (s.updatePort u f).processorReset = s.processorReset := rfl
@[simp] theorem State.updatePort_straps (s : State) (u : UplinkId) (f : Uplink → Uplink) :
    (s.updatePort u f).straps = s.straps := rfl
@[simp] theorem State.updatePort_path (s : State) (u : UplinkId) (f : Uplink → Uplink) :
    (s.updatePort u f).path = s.path := rfl
@[simp] theorem State.updatePort_window (s : State) (u : UplinkId) (f : Uplink → Uplink) :
    (s.updatePort u f).window = s.window := rfl
@[simp] theorem State.updatePort_link (s : State) (u : UplinkId) (f : Uplink → Uplink) :
    (s.updatePort u f).link = s.link := rfl
@[simp] theorem State.updatePort_inventory (s : State) (u : UplinkId) (f : Uplink → Uplink) :
    (s.updatePort u f).inventory = s.inventory := rfl
@[simp] theorem State.updatePort_slots (s : State) (u : UplinkId) (f : Uplink → Uplink) :
    (s.updatePort u f).slots = s.slots := rfl
@[simp] theorem State.updatePort_budget (s : State) (u : UplinkId) (f : Uplink → Uplink) :
    (s.updatePort u f).budget = s.budget := rfl
@[simp] theorem State.updatePort_thermal (s : State) (u : UplinkId) (f : Uplink → Uplink) :
    (s.updatePort u f).thermal = s.thermal := rfl
@[simp] theorem State.updatePort_uplinks (s : State) (u : UplinkId) (f : Uplink → Uplink) :
    (s.updatePort u f).uplinks = { s.uplinks with ports := s.uplinks.ports.set u (f s.uplinks.ports[u]) } := rfl
@[simp] theorem State.updatePort_events (s : State) (u : UplinkId) (f : Uplink → Uplink) :
    (s.updatePort u f).events = s.events := rfl

/-! ## updatePin -/

@[simp] theorem State.updatePin_pending (s : State) (n : SlotId) (f : Pin → Pin) :
    (s.updatePin n f).pending = s.pending := rfl
@[simp] theorem State.updatePin_chassisReset (s : State) (n : SlotId) (f : Pin → Pin) :
    (s.updatePin n f).chassisReset = s.chassisReset := rfl
@[simp] theorem State.updatePin_processorReset (s : State) (n : SlotId) (f : Pin → Pin) :
    (s.updatePin n f).processorReset = s.processorReset := rfl
@[simp] theorem State.updatePin_straps (s : State) (n : SlotId) (f : Pin → Pin) :
    (s.updatePin n f).straps = s.straps := rfl
@[simp] theorem State.updatePin_path (s : State) (n : SlotId) (f : Pin → Pin) : (s.updatePin n f).path = s.path := rfl
@[simp] theorem State.updatePin_window (s : State) (n : SlotId) (f : Pin → Pin) :
    (s.updatePin n f).window = s.window := rfl
@[simp] theorem State.updatePin_link (s : State) (n : SlotId) (f : Pin → Pin) : (s.updatePin n f).link = s.link := rfl
@[simp] theorem State.updatePin_inventory (s : State) (n : SlotId) (f : Pin → Pin) :
    (s.updatePin n f).inventory = s.inventory := rfl
@[simp] theorem State.updatePin_slots (s : State) (n : SlotId) (f : Pin → Pin) :
    (s.updatePin n f).slots = s.slots := rfl
@[simp] theorem State.updatePin_budget (s : State) (n : SlotId) (f : Pin → Pin) :
    (s.updatePin n f).budget = s.budget := rfl
@[simp] theorem State.updatePin_thermal (s : State) (n : SlotId) (f : Pin → Pin) :
    (s.updatePin n f).thermal = s.thermal := rfl
@[simp] theorem State.updatePin_uplinks (s : State) (n : SlotId) (f : Pin → Pin) :
    (s.updatePin n f).uplinks = { s.uplinks with pins := s.uplinks.pins.set n (f s.uplinks.pins[n]) } := rfl
@[simp] theorem State.updatePin_events (s : State) (n : SlotId) (f : Pin → Pin) :
    (s.updatePin n f).events = s.events := rfl

/-! ## updateEvents -/

@[simp] theorem State.updateEvents_pending (s : State) (f : EventList → EventList) :
    (s.updateEvents f).pending = s.pending := rfl
@[simp] theorem State.updateEvents_chassisReset (s : State) (f : EventList → EventList) :
    (s.updateEvents f).chassisReset = s.chassisReset := rfl
@[simp] theorem State.updateEvents_processorReset (s : State) (f : EventList → EventList) :
    (s.updateEvents f).processorReset = s.processorReset := rfl
@[simp] theorem State.updateEvents_straps (s : State) (f : EventList → EventList) :
    (s.updateEvents f).straps = s.straps := rfl
@[simp] theorem State.updateEvents_path (s : State) (f : EventList → EventList) :
    (s.updateEvents f).path = s.path := rfl
@[simp] theorem State.updateEvents_window (s : State) (f : EventList → EventList) :
    (s.updateEvents f).window = s.window := rfl
@[simp] theorem State.updateEvents_link (s : State) (f : EventList → EventList) :
    (s.updateEvents f).link = s.link := rfl
@[simp] theorem State.updateEvents_inventory (s : State) (f : EventList → EventList) :
    (s.updateEvents f).inventory = s.inventory := rfl
@[simp] theorem State.updateEvents_slots (s : State) (f : EventList → EventList) :
    (s.updateEvents f).slots = s.slots := rfl
@[simp] theorem State.updateEvents_budget (s : State) (f : EventList → EventList) :
    (s.updateEvents f).budget = s.budget := rfl
@[simp] theorem State.updateEvents_thermal (s : State) (f : EventList → EventList) :
    (s.updateEvents f).thermal = s.thermal := rfl
@[simp] theorem State.updateEvents_uplinks (s : State) (f : EventList → EventList) :
    (s.updateEvents f).uplinks = s.uplinks := rfl
@[simp] theorem State.updateEvents_events (s : State) (f : EventList → EventList) :
    (s.updateEvents f).events = f s.events := rfl

/-! ## appendEvent -/

@[simp] theorem State.appendEvent_pending (s : State) (source : Nat) (kind : EventKind) (detail : Word) :
    (s.appendEvent source kind detail).pending = s.pending := rfl
@[simp] theorem State.appendEvent_chassisReset (s : State) (source : Nat) (kind : EventKind) (detail : Word) :
    (s.appendEvent source kind detail).chassisReset = s.chassisReset := rfl
@[simp] theorem State.appendEvent_processorReset (s : State) (source : Nat) (kind : EventKind) (detail : Word) :
    (s.appendEvent source kind detail).processorReset = s.processorReset := rfl
@[simp] theorem State.appendEvent_straps (s : State) (source : Nat) (kind : EventKind) (detail : Word) :
    (s.appendEvent source kind detail).straps = s.straps := rfl
@[simp] theorem State.appendEvent_path (s : State) (source : Nat) (kind : EventKind) (detail : Word) :
    (s.appendEvent source kind detail).path = s.path := rfl
@[simp] theorem State.appendEvent_window (s : State) (source : Nat) (kind : EventKind) (detail : Word) :
    (s.appendEvent source kind detail).window = s.window := rfl
@[simp] theorem State.appendEvent_link (s : State) (source : Nat) (kind : EventKind) (detail : Word) :
    (s.appendEvent source kind detail).link = s.link := rfl
@[simp] theorem State.appendEvent_inventory (s : State) (source : Nat) (kind : EventKind) (detail : Word) :
    (s.appendEvent source kind detail).inventory = s.inventory := rfl
@[simp] theorem State.appendEvent_slots (s : State) (source : Nat) (kind : EventKind) (detail : Word) :
    (s.appendEvent source kind detail).slots = s.slots := rfl
@[simp] theorem State.appendEvent_budget (s : State) (source : Nat) (kind : EventKind) (detail : Word) :
    (s.appendEvent source kind detail).budget = s.budget := rfl
@[simp] theorem State.appendEvent_thermal (s : State) (source : Nat) (kind : EventKind) (detail : Word) :
    (s.appendEvent source kind detail).thermal = s.thermal := rfl
@[simp] theorem State.appendEvent_uplinks (s : State) (source : Nat) (kind : EventKind) (detail : Word) :
    (s.appendEvent source kind detail).uplinks = s.uplinks := rfl
@[simp] theorem State.appendEvent_events (s : State) (source : Nat) (kind : EventKind) (detail : Word) :
    (s.appendEvent source kind detail).events = { s.events with entries := appendEntry s.events.entries source kind detail } := rfl

/-! ## Reading a record after its update -/

@[simp] theorem State.slot_updateSlot (s : State) (i j : SlotId) (f : SlotRecord → SlotRecord) :
    (s.updateSlot i f).slot j = if i = j then f (s.slot i) else s.slot j := by
  unfold State.slot
  simp [Vector.getElem_set, Fin.ext_iff]

@[simp] theorem State.linkRecord_updateLinkRecord (s : State) (i j : Endpoint) (f : LinkRecord → LinkRecord) :
    (s.updateLinkRecord i f).linkRecord j = if i = j then f (s.linkRecord i) else s.linkRecord j := by
  unfold State.linkRecord
  simp [Vector.getElem_set, Fin.ext_iff]

@[simp] theorem State.inventoryRecord_updateInventoryRecord (s : State) (i j : Endpoint) (f : InventoryRecord → InventoryRecord) :
    (s.updateInventoryRecord i f).inventoryRecord j = if i = j then f (s.inventoryRecord i) else s.inventoryRecord j := by
  unfold State.inventoryRecord
  simp [Vector.getElem_set, Fin.ext_iff]

@[simp] theorem State.supply_updateSupply (s : State) (i j : BayId) (f : Supply → Supply) :
    (s.updateSupply i f).supply j = if i = j then f (s.supply i) else s.supply j := by
  unfold State.supply
  simp [Vector.getElem_set, Fin.ext_iff]

@[simp] theorem State.budgetRecord_updateBudgetRecord (s : State) (i j : SlotId) (f : BudgetRecord → BudgetRecord) :
    (s.updateBudgetRecord i f).budgetRecord j = if i = j then f (s.budgetRecord i) else s.budgetRecord j := by
  unfold State.budgetRecord
  simp [Vector.getElem_set, Fin.ext_iff]

@[simp] theorem State.zone_updateZone (s : State) (i j : ZoneId) (f : Zone → Zone) :
    (s.updateZone i f).zone j = if i = j then f (s.zone i) else s.zone j := by
  unfold State.zone
  simp [Vector.getElem_set, Fin.ext_iff]

@[simp] theorem State.fan_updateFan (s : State) (i j : FanId) (f : Fan → Fan) :
    (s.updateFan i f).fan j = if i = j then f (s.fan i) else s.fan j := by
  unfold State.fan
  simp [Vector.getElem_set, Fin.ext_iff]

@[simp] theorem State.reading_updateReading (s : State) (i j : SourceId) (f : Reading → Reading) :
    (s.updateReading i f).reading j = if i = j then f (s.reading i) else s.reading j := by
  unfold State.reading
  simp [Vector.getElem_set, Fin.ext_iff]

@[simp] theorem State.port_updatePort (s : State) (i j : UplinkId) (f : Uplink → Uplink) :
    (s.updatePort i f).port j = if i = j then f (s.port i) else s.port j := by
  unfold State.port
  simp [Vector.getElem_set, Fin.ext_iff]

@[simp] theorem State.pin_updatePin (s : State) (i j : SlotId) (f : Pin → Pin) :
    (s.updatePin i f).pin j = if i = j then f (s.pin i) else s.pin j := by
  unfold State.pin
  simp [Vector.getElem_set, Fin.ext_iff]

/-- A bank after a bank is replaced. -/
@[simp] theorem State.bank_setBank (s : State) (i j : BankId) (r : Bank) :
    (s.setBank i r).bank j = if i = j then r else s.bank j := by
  unfold State.bank
  simp [Vector.getElem_set, Fin.ext_iff]

end Sys2Proof.Machine
end

