-- ==== Sys2Proof/Laws/Sides.lean ====
section
/-! SUPPORT. No operation of the chassis blocks touches the processor side: the queue of commands, the reset lines, the
straps, the Path Tracker, the Window Decoder and the settings. One lemma per shared operation. -/

namespace Sys2Proof.Machine

/-! ## Tools -/

/-- A fold keeps what each of its steps keeps. -/
theorem foldl_keeps {α β γ : Type} (g : α → γ) (f : α → β → α) (h : ∀ a b, g (f a b) = g a) (l : List β) (a : α) :
    g (l.foldl f a) = g a := by
  induction l generalizing a with
  | nil => rfl
  | cons b l ih => simp only [List.foldl_cons, ih, h]

/-- Setting one place of a vector to an element with the same image leaves the vector's image. -/
theorem map_set_same {α β : Type} {n : Nat} (g : α → β) (v : Vector α n) (i : Fin n) (x : α) (h : g x = g v[i]) :
    (v.set i x).map g = v.map g := by
  ext j hj
  simp only [Vector.getElem_map, Vector.getElem_set]
  split
  · next hij => subst hij; exact h
  · rfl

/-- The settings of two states agree when every part does. -/
theorem State.side_ext {s t : State} (h1 : t.pending = s.pending) (h2 : t.chassisReset = s.chassisReset)
    (h3 : t.processorReset = s.processorReset) (h4 : t.straps = s.straps) (h5 : t.path = s.path)
    (h6 : t.window = s.window) (h7 : t.settings = s.settings) : t.processorSide = s.processorSide := by
  simp only [State.processorSide, h1, h2, h3, h4, h5, h6, h7]

/-! ## Updates -/

@[simp] theorem State.updateSlot_side (s : State) (n : SlotId) (f : SlotRecord → SlotRecord)
    (h1 : ∀ r, (f r).guardLevel = r.guardLevel) (h2 : ∀ r, (f r).debounce = r.debounce)
    (h3 : ∀ r, (f r).stopTimeout = r.stopTimeout) (h4 : ∀ r, (f r).buttonEdge = r.buttonEdge)
    (h5 : ∀ r, (f r).buttonAction = r.buttonAction) : (s.updateSlot n f).processorSide = s.processorSide := by
  simp only [State.processorSide, State.settings, State.updateSlot]
  rw [map_set_same _ _ _ _ (by simp only [SlotRecord.settings, h1, h2, h3, h4, h5])]

@[simp] theorem State.updateLink_side (s : State) (f : LinkEngine → LinkEngine) :
    (s.updateLink f).processorSide = s.processorSide := rfl

@[simp] theorem State.updateLinkRecord_side (s : State) (e : Endpoint) (f : LinkRecord → LinkRecord) :
    (s.updateLinkRecord e f).processorSide = s.processorSide := rfl

@[simp] theorem State.updateInventory_side (s : State) (f : Inventory → Inventory)
    (h : ∀ i, (f i).viewEndpoint = i.viewEndpoint) (h' : ∀ i, (f i).viewPage = i.viewPage) :
    (s.updateInventory f).processorSide = s.processorSide := by
  simp only [State.processorSide, State.settings, State.updateInventory, h, h']

@[simp] theorem State.updateInventoryRecord_side (s : State) (e : Endpoint) (f : InventoryRecord → InventoryRecord) :
    (s.updateInventoryRecord e f).processorSide = s.processorSide := rfl

@[simp] theorem State.updateBudget_side (s : State) (f : Budget → Budget)
    (h1 : ∀ b, (f b).redundancy = b.redundancy) (h2 : ∀ b, (f b).baseLoad = b.baseLoad)
    (h3 : ∀ b, (f b).supplies = b.supplies) (h4 : ∀ b, (f b).records = b.records) :
    (s.updateBudget f).processorSide = s.processorSide := by
  simp only [State.processorSide, State.settings, State.updateBudget, h1, h2, h3, h4]

@[simp] theorem State.markEvaluation_side (s : State) : s.markEvaluation.processorSide = s.processorSide := rfl

@[simp] theorem State.clearDue_side (s : State) : s.clearDue.processorSide = s.processorSide := rfl

@[simp] theorem State.updateSupply_side (s : State) (i : BayId) (f : Supply → Supply)
    (h : ∀ r, (f r).override = r.override) : (s.updateSupply i f).processorSide = s.processorSide := by
  simp only [State.processorSide, State.settings, State.updateSupply, State.updateBudget]
  rw [map_set_same _ _ _ _ (h _)]

@[simp] theorem State.updateBudgetRecord_side (s : State) (n : SlotId) (f : BudgetRecord → BudgetRecord)
    (h : ∀ r, (f r).priority = r.priority) (h' : ∀ r, (f r).override = r.override) :
    (s.updateBudgetRecord n f).processorSide = s.processorSide := by
  simp only [State.processorSide, State.settings, State.updateBudgetRecord, State.updateBudget]
  rw [map_set_same _ _ _ _ (h _), map_set_same _ _ _ _ (h' _)]

@[simp] theorem State.updateZone_side (s : State) (z : ZoneId) (f : Zone → Zone)
    (h1 : ∀ r, (f r).manual = r.manual) (h2 : ∀ r, (f r).manualDuty = r.manualDuty)
    (h3 : ∀ r, (f r).curve = r.curve) (h4 : ∀ r, (f r).limits = r.limits) :
    (s.updateZone z f).processorSide = s.processorSide := by
  simp only [State.processorSide, State.settings, State.updateZone, State.updateThermal]
  rw [map_set_same _ _ _ _ (by simp only [Zone.settings, h1, h2, h3, h4])]

@[simp] theorem State.updateFan_side (s : State) (i : FanId) (f : Fan → Fan) :
    (s.updateFan i f).processorSide = s.processorSide := rfl

@[simp] theorem State.updateReading_side (s : State) (r : SourceId) (f : Reading → Reading)
    (h : ∀ q, (f q).offset = q.offset) : (s.updateReading r f).processorSide = s.processorSide := by
  simp only [State.processorSide, State.settings, State.updateReading, State.updateThermal]
  rw [map_set_same _ _ _ _ (h _)]

@[simp] theorem State.updatePort_side (s : State) (u : UplinkId) (f : Uplink → Uplink)
    (h : ∀ r, (f r).group = r.group) : (s.updatePort u f).processorSide = s.processorSide := by
  simp only [State.processorSide, State.settings, State.updatePort, State.updateUplinks]
  rw [map_set_same _ _ _ _ (h _)]

@[simp] theorem State.updatePin_side (s : State) (n : SlotId) (f : Pin → Pin)
    (h : ∀ r, (f r).preferred = r.preferred) (h' : ∀ r, (f r).weight = r.weight) :
    (s.updatePin n f).processorSide = s.processorSide := by
  simp only [State.processorSide, State.settings, State.updatePin, State.updateUplinks]
  rw [map_set_same _ _ _ _ (h _), map_set_same _ _ _ _ (h' _)]

@[simp] theorem State.appendEvent_side (s : State) (source : Nat) (kind : EventKind) (detail : Word) :
    (s.appendEvent source kind detail).processorSide = s.processorSide := rfl

/-! ## Link Engine (LinkOps) -/

@[simp] theorem State.send_side (s : State) (r : Request) : (s.send r).processorSide = s.processorSide := by
  unfold State.send
  (repeat' split) <;> simp

@[simp] theorem State.arbitrate_side (s : State) : s.arbitrate.processorSide = s.processorSide := by
  unfold State.arbitrate
  (repeat' split) <;> simp

@[simp] theorem State.request_side (s : State) (r : Request) : (s.request r).processorSide = s.processorSide := by
  unfold State.request
  (repeat' split) <;> simp

@[simp] theorem State.requestKind_side (s : State) (e : Endpoint) (k : TransactionKind) (who : Requester) :
    (s.requestKind e k who).processorSide = s.processorSide := by
  unfold State.requestKind
  simp

@[simp] theorem State.requestIfNone_side (s : State) (e : Endpoint) (k : TransactionKind) :
    (s.requestIfNone e k).processorSide = s.processorSide := by
  unfold State.requestIfNone
  (repeat' split) <;> simp

@[simp] theorem State.linkPresent_side (s : State) (e : Endpoint) :
    (s.linkPresent e).processorSide = s.processorSide := by
  unfold State.linkPresent
  simp

@[simp] theorem State.linkAbsent_side (s : State) (e : Endpoint) :
    (s.linkAbsent e).processorSide = s.processorSide := by
  unfold State.linkAbsent
  (repeat' split) <;> simp

@[simp] theorem State.syncPoll_side (s : State) (e : Endpoint) : (s.syncPoll e).processorSide = s.processorSide := by
  unfold State.syncPoll
  (repeat' split) <;> simp

/-! ## Uplink Allocator (UplinkOps) -/

@[simp] theorem State.reselectBlade_side (s : State) (n : SlotId) :
    (s.reselectBlade n).processorSide = s.processorSide := by
  unfold State.reselectBlade
  (repeat' split) <;> simp

@[simp] theorem State.reselect_side (s : State) : s.reselect.processorSide = s.processorSide := by
  unfold State.reselect
  exact foldl_keeps State.processorSide _ (fun t n => by simp) _ _

@[simp] theorem State.recomputeRates_side (s : State) : s.recomputeRates.processorSide = s.processorSide := by
  unfold State.recomputeRates
  exact foldl_keeps State.processorSide _ (fun t n => by simp) _ _

@[simp] theorem State.requestPins_side (s : State) : s.requestPins.processorSide = s.processorSide := by
  unfold State.requestPins
  simp

@[simp] theorem State.programIfChanged_side (s t : State) :
    (State.programIfChanged s t).processorSide = t.processorSide := by
  unfold State.programIfChanged
  split <;> simp

@[simp] theorem State.rework_side (s : State) : s.rework.processorSide = s.processorSide := by
  unfold State.rework
  simp

@[simp] theorem State.rerate_side (s : State) : s.rerate.processorSide = s.processorSide := by
  unfold State.rerate
  simp

@[simp] theorem State.unconfirmPins_side (s : State) : s.unconfirmPins.processorSide = s.processorSide := by
  unfold State.unconfirmPins
  exact foldl_keeps State.processorSide _ (fun t n => by simp) _ _

@[simp] theorem State.confirmPins_side (s : State) (table : List (Nat × Nat)) :
    (s.confirmPins table).processorSide = s.processorSide := by
  unfold State.confirmPins
  exact foldl_keeps State.processorSide _ (fun t n => by simp) _ _

@[simp] theorem State.pinsFailed_side (s : State) : s.pinsFailed.processorSide = s.processorSide := by
  unfold State.pinsFailed
  simp

@[simp] theorem State.storePortSpeed_side (s : State) (n : SlotId) :
    (s.storePortSpeed n).processorSide = s.processorSide := by
  unfold State.storePortSpeed
  simp only
  (repeat' split) <;> simp

@[simp] theorem State.noticePortSpeeds_side (s : State) : s.noticePortSpeeds.processorSide = s.processorSide := by
  unfold State.noticePortSpeeds
  exact foldl_keeps State.processorSide _ (fun t n => by simp) _ _

@[simp] theorem State.reportUplink_side (s : State) (u : UplinkId) (cause : UplinkCause) :
    (s.reportUplink u cause).processorSide = s.processorSide := by
  unfold State.reportUplink
  (repeat' split) <;> simp

@[simp] theorem State.cancelFailbacks_side (s : State) (u : UplinkId) :
    (s.cancelFailbacks u).processorSide = s.processorSide := by
  unfold State.cancelFailbacks
  exact foldl_keeps State.processorSide _ (fun t n => by split <;> simp) _ _

@[simp] theorem State.startFailbacks_side (s : State) (u : UplinkId) :
    (s.startFailbacks u).processorSide = s.processorSide := by
  unfold State.startFailbacks
  split
  · rfl
  · exact foldl_keeps State.processorSide _ (fun t n => by split <;> simp) _ _

@[simp] theorem State.syncUpTimer_side (s : State) (u : UplinkId) :
    (s.syncUpTimer u).processorSide = s.processorSide := by
  unfold State.syncUpTimer
  simp only
  (repeat' split) <;> simp

@[simp] theorem State.declareUp_side (s : State) (u : UplinkId) :
    (s.declareUp u).processorSide = s.processorSide := by
  unfold State.declareUp
  simp

@[simp] theorem State.declareDown_side (s : State) (u : UplinkId) (cause : UplinkCause) :
    (s.declareDown u cause).processorSide = s.processorSide := by
  unfold State.declareDown
  simp

/-! ## Budget records (BudgetRecords) -/

@[simp] theorem State.joinQueue_side (s : State) (n : SlotId) (o : Origin) :
    (s.joinQueue n o).processorSide = s.processorSide := by
  rfl

@[simp] theorem State.dropFromQueue_side (s : State) (n : SlotId) :
    (s.dropFromQueue n).processorSide = s.processorSide := by
  rfl

@[simp] theorem State.withdrawFromQueue_side (s : State) (n : SlotId) :
    (s.withdrawFromQueue n).processorSide = s.processorSide := by
  rfl

@[simp] theorem State.replaceInQueue_side (s : State) (n : SlotId) :
    (s.replaceInQueue n).processorSide = s.processorSide := by
  unfold State.replaceInQueue
  split <;> rfl

@[simp] theorem State.releaseBudget_side (s : State) (n : SlotId) :
    (s.releaseBudget n).processorSide = s.processorSide := by
  unfold State.releaseBudget
  simp

@[simp] theorem State.leftPowered_side (s : State) (n : SlotId) :
    (s.leftPowered n).processorSide = s.processorSide := by
  unfold State.leftPowered
  (repeat' split) <;> simp

@[simp] theorem State.withdrawDecrease_side (s : State) (n : SlotId) :
    (s.withdrawDecrease n).processorSide = s.processorSide := by
  unfold State.withdrawDecrease
  rw [State.markEvaluation_side, State.updateBudgetRecord_side] <;> intro r <;> split <;> rfl

@[simp] theorem State.setThermalFlag_side (s : State) (n : SlotId) (b : Bool) :
    (s.setThermalFlag n b).processorSide = s.processorSide := by
  unfold State.setThermalFlag
  (repeat' split) <;> simp

@[simp] theorem State.reportAllocation_side (s : State) (z : ZoneId) (w : Nat) :
    (s.reportAllocation z w).processorSide = s.processorSide := by
  unfold State.reportAllocation
  split <;> rfl

@[simp] theorem State.appendBudget_side (s : State) (o : BudgetOccasion) :
    (s.appendBudget o).processorSide = s.processorSide := by
  unfold State.appendBudget
  simp

/-! ## Inventory Store (InventoryOps) -/

@[simp] theorem State.setInventoryRecord_side (s : State) (e : Endpoint) (r : InventoryRecord) :
    (s.setInventoryRecord e r).processorSide = s.processorSide := by
  unfold State.setInventoryRecord
  simp only
  (repeat' split) <;> simp

@[simp] theorem State.freePages_side (s : State) (e : Endpoint) :
    (s.freePages e).processorSide = s.processorSide := by
  rfl

@[simp] theorem State.endFetch_side (s : State) (e : Endpoint) : (s.endFetch e).processorSide = s.processorSide := by
  rfl

@[simp] theorem State.appendInventory_side (s : State) (e : Endpoint) (o : InventoryOccasion) :
    (s.appendInventory e o).processorSide = s.processorSide := by
  rfl

@[simp] theorem State.requestIdent_side (s : State) (e : Endpoint) :
    (s.requestIdent e).processorSide = s.processorSide := by
  unfold State.requestIdent
  simp

@[simp] theorem State.openRecord_side (s : State) (e : Endpoint) :
    (s.openRecord e).processorSide = s.processorSide := by
  unfold State.openRecord
  simp

@[simp] theorem State.closeRecord_side (s : State) (e : Endpoint) :
    (s.closeRecord e).processorSide = s.processorSide := by
  unfold State.closeRecord
  simp

@[simp] theorem State.devicePresent_side (s : State) (e : Endpoint) :
    (s.devicePresent e).processorSide = s.processorSide := by
  unfold State.devicePresent
  simp

@[simp] theorem State.deviceAbsent_side (s : State) (e : Endpoint) :
    (s.deviceAbsent e).processorSide = s.processorSide := by
  unfold State.deviceAbsent
  simp

@[simp] theorem State.bladeUnseated_side (s : State) (e : Endpoint) :
    (s.bladeUnseated e).processorSide = s.processorSide := by
  unfold State.bladeUnseated
  simp

@[simp] theorem State.rejectIdentity_side (s : State) (e : Endpoint) (reason : Nat) :
    (s.rejectIdentity e reason).processorSide = s.processorSide := by
  unfold State.rejectIdentity
  simp

@[simp] theorem State.acceptIdentity_side (s : State) (e : Endpoint) (i : Identity) :
    (s.acceptIdentity e i).processorSide = s.processorSide := by
  unfold State.acceptIdentity
  simp only
  (repeat' split) <;> simp

@[simp] theorem State.identityPage_side (s : State) (e : Endpoint) (page : List Byte) :
    (s.identityPage e page).processorSide = s.processorSide := by
  unfold State.identityPage
  (repeat' split) <;> simp

@[simp] theorem State.identFailed_side (s : State) (e : Endpoint) :
    (s.identFailed e).processorSide = s.processorSide := by
  unfold State.identFailed
  (repeat' split) <;> simp

@[simp] theorem State.requestPage_side (s : State) (e : Endpoint) (k : Nat) :
    (s.requestPage e k).processorSide = s.processorSide := by
  unfold State.requestPage
  simp

@[simp] theorem State.startFetch_side (s : State) (e : Endpoint) (n : Nat) :
    (s.startFetch e n).processorSide = s.processorSide := by
  unfold State.startFetch
  simp

@[simp] theorem State.updatePage_side (s : State) (e : Endpoint) (k : Nat) (f : Page → Page) :
    (s.updatePage e k f).processorSide = s.processorSide := by
  rfl

@[simp] theorem State.moveFetch_side (s : State) (e : Endpoint) (k : Nat) :
    (s.moveFetch e k).processorSide = s.processorSide := by
  unfold State.moveFetch
  (repeat' split) <;> simp

@[simp] theorem State.pageFailed_side (s : State) (e : Endpoint) (k : Nat) :
    (s.pageFailed e k).processorSide = s.processorSide := by
  unfold State.pageFailed
  (repeat' split) <;> simp

@[simp] theorem State.pageOutcome_side (s : State) (e : Endpoint) (k : Nat) (r : TransactionResult) :
    (s.pageOutcome e k r).processorSide = s.processorSide := by
  unfold State.pageOutcome
  (repeat' split) <;> simp

@[simp] theorem State.abortFetch_side (s : State) (e : Endpoint) :
    (s.abortFetch e).processorSide = s.processorSide := by
  unfold State.abortFetch
  (repeat' split) <;> simp

/-! ## Slot Controller (SlotOps) -/

@[simp] theorem State.appendPower_side (s : State) (n : SlotId) (t : SlotState) (c : PowerCause) :
    (s.appendPower n t c).processorSide = s.processorSide := by
  rfl

@[simp] theorem State.appendRefusal_side (s : State) (n : SlotId) (o : Origin) (v : Verdict) :
    (s.appendRefusal n o v).processorSide = s.processorSide := by
  rfl

@[simp] theorem State.appendFault_side (s : State) (n : SlotId) (r : FaultReason) (l : SlotState) :
    (s.appendFault n r l).processorSide = s.processorSide := by
  rfl

@[simp] theorem State.enteredOn_side (s : State) (n : SlotId) : (s.enteredOn n).processorSide = s.processorSide := by
  unfold State.enteredOn
  (repeat' split) <;> simp

@[simp] theorem State.leftOn_side (s : State) (n : SlotId) : (s.leftOn n).processorSide = s.processorSide := by
  unfold State.leftOn
  simp

@[simp] theorem State.syncBladePoll_side (s : State) (n : SlotId) :
    (s.syncBladePoll n).processorSide = s.processorSide := by
  unfold State.syncBladePoll
  simp

@[simp] theorem State.enterFault_side (s : State) (n : SlotId) (r : FaultReason) :
    (s.enterFault n r).processorSide = s.processorSide := by
  unfold State.enterFault
  simp only
  (repeat' split) <;> simp

@[simp] theorem State.enterOn_side (s : State) (n : SlotId) : (s.enterOn n).processorSide = s.processorSide := by
  unfold State.enterOn
  simp

@[simp] theorem State.enterRamping_side (s : State) (n : SlotId) :
    (s.enterRamping n).processorSide = s.processorSide := by
  unfold State.enterRamping
  simp only
  (repeat' split) <;> simp

@[simp] theorem State.toStandby_side (s : State) (n : SlotId) (c : PowerCause) :
    (s.toStandby n c).processorSide = s.processorSide := by
  unfold State.toStandby
  simp only
  (repeat' split) <;> simp

@[simp] theorem State.leaveQueue_side (s : State) (n : SlotId) :
    (s.leaveQueue n).processorSide = s.processorSide := by
  unfold State.leaveQueue
  simp

@[simp] theorem State.shed_side (s : State) (n : SlotId) (o : BudgetOccasion) :
    (s.shed n o).processorSide = s.processorSide := by
  unfold State.shed
  (repeat' split) <;> simp

@[simp] theorem State.shedForCap_side (s : State) (n : SlotId) :
    (s.shedForCap n).processorSide = s.processorSide := by
  unfold State.shedForCap
  (repeat' split) <;> simp

@[simp] theorem State.capFailed_side (s : State) (n : SlotId) (w : Nat) :
    (s.capFailed n w).processorSide = s.processorSide := by
  unfold State.capFailed
  (repeat' split) <;> simp

@[simp] theorem State.gracefulStop_side (s : State) (n : SlotId) (c : PowerCause) :
    (s.gracefulStop n c).processorSide = s.processorSide := by
  unfold State.gracefulStop
  simp

@[simp] theorem State.enterQueued_side (s : State) (n : SlotId) (o : Origin) :
    (s.enterQueued n o).processorSide = s.processorSide := by
  unfold State.enterQueued
  simp

@[simp] theorem State.raiseRequest_side (s : State) (n : SlotId) (o : Origin) :
    (s.raiseRequest n o).processorSide = s.processorSide := by
  unfold State.raiseRequest
  (repeat' split) <;> simp

@[simp] theorem State.enterAuxOn_side (s : State) (n : SlotId) (c : PowerCause) :
    (s.enterAuxOn n c).processorSide = s.processorSide := by
  unfold State.enterAuxOn
  simp

@[simp] theorem State.leaveAuxOn_side (s : State) (n : SlotId) :
    (s.leaveAuxOn n).processorSide = s.processorSide := by
  unfold State.leaveAuxOn
  simp only
  (repeat' split) <;> simp

@[simp] theorem State.clearReading_side (s : State) (r : SourceId) :
    (s.clearReading r).processorSide = s.processorSide := by
  unfold State.clearReading
  simp

@[simp] theorem State.settle_side (s : State) (n : SlotId) : (s.settle n).processorSide = s.processorSide := by
  unfold State.settle
  simp

@[simp] theorem State.removeBlade_side (s : State) (n : SlotId) :
    (s.removeBlade n).processorSide = s.processorSide := by
  unfold State.removeBlade
  simp only
  (repeat' split) <;> simp

@[simp] theorem State.presenceLine_side (s : State) (n : SlotId) (l : Bool) :
    (s.presenceLine n l).processorSide = s.processorSide := by
  unfold State.presenceLine
  simp only
  (repeat' split) <;> simp

@[simp] theorem State.seatBlade_side (s : State) (n : SlotId) : (s.seatBlade n).processorSide = s.processorSide := by
  unfold State.seatBlade
  simp

@[simp] theorem State.emptySlot_side (s : State) (n : SlotId) : (s.emptySlot n).processorSide = s.processorSide := by
  unfold State.emptySlot
  simp

/-! ## The evaluation (Evaluation) -/

@[simp] theorem State.requestCap_side (s : State) (n : SlotId) (w : Nat) :
    (s.requestCap n w).processorSide = s.processorSide := by
  unfold State.requestCap
  simp

@[simp] theorem State.setDecrease_side (s : State) (n : SlotId) (w : Nat) :
    (s.setDecrease n w).processorSide = s.processorSide := by
  unfold State.setDecrease
  simp only
  (repeat' split) <;> simp

@[simp] theorem State.thermalTargets_side (s : State) : s.thermalTargets.processorSide = s.processorSide := by
  unfold State.thermalTargets
  exact foldl_keeps State.processorSide _ (fun t n => by split <;> simp) _ _

/-- The cap pass keeps the processor side. -/
theorem capStep_side (acc : Nat × State) (n : SlotId) : (capStep acc n).2.processorSide = acc.2.processorSide := by
  unfold capStep
  simp only
  (repeat' split) <;> simp

@[simp] theorem State.capPass_side (s : State) : s.capPass.2.processorSide = s.processorSide := by
  unfold State.capPass
  exact foldl_keeps (fun a : Nat × State => a.2.processorSide) _ capStep_side _ _

/-- The shed pass keeps the processor side. -/
theorem shedStep_side (acc : Nat × State) (n : SlotId) : (shedStep acc n).2.processorSide = acc.2.processorSide := by
  unfold shedStep
  simp only
  split <;> simp

@[simp] theorem State.shedPass_side (s : State) (d : Nat) : (s.shedPass d).processorSide = s.processorSide := by
  unfold State.shedPass
  exact foldl_keeps (fun a : Nat × State => a.2.processorSide) _ shedStep_side _ _

/-- The restore pass keeps the processor side. -/
theorem restoreStep_side (s : State) (n : SlotId) : (restoreStep s n).processorSide = s.processorSide := by
  unfold restoreStep
  simp only
  split <;> simp

@[simp] theorem State.restorePass_side (s : State) : s.restorePass.processorSide = s.processorSide := by
  unfold State.restorePass
  split
  · rfl
  · exact foldl_keeps State.processorSide _ restoreStep_side _ _

@[simp] theorem State.admitHead_side (s : State) (n : SlotId) (c : PowerClass) :
    (s.admitHead n c).processorSide = s.processorSide := by
  unfold State.admitHead
  simp

@[simp] theorem State.admitHeads_side (k : Nat) (s : State) :
    (State.admitHeads k s).processorSide = s.processorSide := by
  induction k generalizing s with
  | zero => rfl
  | succ k ih => unfold State.admitHeads; (repeat' split) <;> simp [ih]

@[simp] theorem State.admissionPass_side (s : State) : s.admissionPass.processorSide = s.processorSide := by
  unfold State.admissionPass
  (repeat' split) <;> simp

@[simp] theorem State.beginOvercommit_side (s : State) : s.beginOvercommit.processorSide = s.processorSide := by
  unfold State.beginOvercommit
  split <;> rfl

@[simp] theorem State.endOvercommit_side (s : State) : s.endOvercommit.processorSide = s.processorSide := by
  unfold State.endOvercommit
  split <;> rfl

@[simp] theorem State.coverDeficit_side (s : State) : s.coverDeficit.processorSide = s.processorSide := by
  unfold State.coverDeficit
  simp

@[simp] theorem State.evaluate_side (s : State) : s.evaluate.processorSide = s.processorSide := by
  unfold State.evaluate
  simp

@[simp] theorem State.evaluateWhileDue_side (k : Nat) (s : State) :
    (State.evaluateWhileDue k s).processorSide = s.processorSide := by
  induction k generalizing s with
  | zero => rfl
  | succ k ih => unfold State.evaluateWhileDue; split <;> simp [ih]

@[simp] theorem State.finishEvent_side (s : State) : s.finishEvent.processorSide = s.processorSide := by
  unfold State.finishEvent
  simp

/-- A confirmed cap leaves the settings of the record. -/
@[simp] theorem BudgetRecord.confirm_settings (r : BudgetRecord) (w : Nat) :
    (r.confirm w).priority = r.priority ∧ (r.confirm w).override = r.override := ⟨rfl, rfl⟩

@[simp] theorem State.capAnswered_side (s : State) (n : SlotId) (w a : Nat) :
    (s.capAnswered n w a).processorSide = s.processorSide := by
  unfold State.capAnswered
  simp only
  (repeat' split) <;> simp

/-! ## Thermal Unit (ThermalOps) -/

@[simp] theorem State.refreshReading_side (s : State) (r : SourceId) (v : Int) :
    (s.refreshReading r v).processorSide = s.processorSide := by
  unfold State.refreshReading
  simp

@[simp] theorem State.staleReading_side (s : State) (r : SourceId) :
    (s.staleReading r).processorSide = s.processorSide := by
  unfold State.staleReading
  simp

@[simp] theorem State.appendFan_side (s : State) (z : ZoneId) : (s.appendFan z).processorSide = s.processorSide := by
  rfl

@[simp] theorem State.appendThermal_side (s : State) (z : ZoneId) (o : ThermalOccasion) :
    (s.appendThermal z o).processorSide = s.processorSide := by
  rfl

@[simp] theorem State.closeWindows_side (s : State) (z : ZoneId) :
    (s.closeWindows z).processorSide = s.processorSide := by
  unfold State.closeWindows
  simp only
  split <;> simp

@[simp] theorem State.setDuty_side (s : State) (z : ZoneId) (d : Nat) :
    (s.setDuty z d).processorSide = s.processorSide := by
  unfold State.setDuty
  simp

@[simp] theorem State.reportFans_side (s : State) (z : ZoneId) :
    (s.reportFans z).processorSide = s.processorSide := by
  unfold State.reportFans
  simp

@[simp] theorem State.reformDuty_side (s : State) (z : ZoneId) :
    (s.reformDuty z).processorSide = s.processorSide := by
  unfold State.reformDuty
  simp

@[simp] theorem State.flagBlades_side (s : State) (l : List SlotId) (b : Bool) :
    (s.flagBlades l b).processorSide = s.processorSide := by
  unfold State.flagBlades
  exact foldl_keeps State.processorSide _ (fun t n => by simp) _ _

@[simp] theorem State.judgeCritical_side (s : State) (z : ZoneId) :
    (s.judgeCritical z).processorSide = s.processorSide := by
  unfold State.judgeCritical
  simp only
  (repeat' split) <;> simp

@[simp] theorem State.shutdownNotice_side (s : State) (n : SlotId) :
    (s.shutdownNotice n).processorSide = s.processorSide := by
  unfold State.shutdownNotice
  (repeat' split) <;> simp

@[simp] theorem State.shutdownZone_side (s : State) (z : ZoneId) :
    (s.shutdownZone z).processorSide = s.processorSide := by
  unfold State.shutdownZone
  exact foldl_keeps State.processorSide _ (fun t n => by simp) _ _

@[simp] theorem State.countShutdown_side (s : State) (z : ZoneId) :
    (s.countShutdown z).processorSide = s.processorSide := by
  unfold State.countShutdown
  simp only
  (repeat' split) <;> simp

@[simp] theorem State.judgeGrace_side (s : State) (z : ZoneId) :
    (s.judgeGrace z).processorSide = s.processorSide := by
  unfold State.judgeGrace
  simp only
  split <;> simp

@[simp] theorem State.reportUpdate_side (s : State) (z : ZoneId) :
    (s.reportUpdate z).processorSide = s.processorSide := by
  unfold State.reportUpdate
  simp

@[simp] theorem State.updateZoneNow_side (s : State) (z : ZoneId) :
    (s.updateZoneNow z).processorSide = s.processorSide := by
  unfold State.updateZoneNow
  simp

@[simp] theorem State.setFans_side (s : State) (z : ZoneId) (f : Fan) :
    (s.setFans z f).processorSide = s.processorSide := by
  unfold State.setFans
  simp

@[simp] theorem State.insertModule_side (s : State) (z : ZoneId) :
    (s.insertModule z).processorSide = s.processorSide := by
  unfold State.insertModule
  simp

@[simp] theorem State.removeModule_side (s : State) (z : ZoneId) :
    (s.removeModule z).processorSide = s.processorSide := by
  unfold State.removeModule
  simp

@[simp] theorem State.expireGrace_side (s : State) (z : ZoneId) :
    (s.expireGrace z).processorSide = s.processorSide := by
  unfold State.expireGrace
  simp

end Sys2Proof.Machine
end

