-- ==== Sys2Proof/Laws/PathSide.lean ====
section
/-! SUPPORT. No operation of the memory path touches the chassis side: everything but the Path Tracker, the Window Decoder
and the Event List's entries. One lemma per shared operation. -/

namespace Sys2Proof.Machine

@[simp] theorem State.updatePath_chassis (s : State) (f : Path → Path) :
    (s.updatePath f).chassisSide = s.chassisSide := rfl

@[simp] theorem State.updateWindow_chassis (s : State) (f : Window → Window) :
    (s.updateWindow f).chassisSide = s.chassisSide := rfl

@[simp] theorem State.appendEvent_chassis (s : State) (source : Nat) (kind : EventKind) (detail : Word) :
    (s.appendEvent source kind detail).chassisSide = s.chassisSide := rfl

@[simp] theorem State.setBank_chassis (s : State) (b : BankId) (r : Bank) :
    (s.setBank b r).chassisSide = s.chassisSide := rfl

/-! ## Window Decoder -/

@[simp] theorem State.captureWord_chassis (s : State) (c : Nat) (l : Lanes) :
    (s.captureWord c l).chassisSide = s.chassisSide := rfl

@[simp] theorem State.collide_chassis (s : State) (c : CommandSlot) : (s.collide c).chassisSide = s.chassisSide := rfl

@[simp] theorem State.queuePost_chassis (s : State) (r : CommandRecord) :
    (s.queuePost r).chassisSide = s.chassisSide := rfl

@[simp] theorem State.post_chassis (s : State) (c : CommandSlot) : (s.post c).chassisSide = s.chassisSide := by
  unfold State.post
  simp only
  (repeat' split) <;> simp

@[simp] theorem State.takePosts_chassis (s : State) : s.takePosts.chassisSide = s.chassisSide := by
  unfold State.takePosts
  exact foldl_keeps State.chassisSide _ (fun t c => by simp) _ _

@[simp] theorem State.burstEnded_chassis (s : State) (n : BurstNotice) :
    (s.burstEnded n).chassisSide = s.chassisSide := by
  unfold State.burstEnded
  split <;> simp

@[simp] theorem State.discardPosts_chassis (s : State) : s.discardPosts.chassisSide = s.chassisSide := rfl

@[simp] theorem State.latchPresence_chassis (s : State) (w : List Word) :
    (s.latchPresence w).chassisSide = s.chassisSide := rfl

@[simp] theorem State.complete_chassis (s : State) (r : CommandRecord) (v : Verdict) :
    (s.complete r v).chassisSide = s.chassisSide := rfl

/-! ## Path Tracker -/

@[simp] theorem State.idleBanks_chassis (s : State) : s.idleBanks.chassisSide = s.chassisSide := rfl

@[simp] theorem State.anomaly_chassis (s : State) (a : Anomaly) : (s.anomaly a).chassisSide = s.chassisSide := by
  unfold State.anomaly
  split <;> simp

@[simp] theorem State.anomalyIf_chassis (s : State) (c : Bool) (a : Anomaly) :
    (s.anomalyIf c a).chassisSide = s.chassisSide := by
  unfold State.anomalyIf
  split <;> simp

@[simp] theorem State.endBurst_chassis (s : State) (r : EndReason) : (s.endBurst r).chassisSide = s.chassisSide := by
  unfold State.endBurst
  simp only
  (repeat' split) <;> simp

@[simp] theorem State.endAccess_chassis (s : State) (r : EndReason) : (s.endAccess r).chassisSide = s.chassisSide := by
  simp [State.endAccess]

@[simp] theorem State.completeBurst_chassis (s : State) : s.completeBurst.chassisSide = s.chassisSide := by
  unfold State.completeBurst
  (repeat' split) <;> simp

@[simp] theorem State.stopWindow_chassis (s : State) : s.stopWindow.chassisSide = s.chassisSide := rfl

@[simp] theorem State.forward_chassis (s : State) (c : CommandLines) (m : Masks) :
    (s.forward c m).chassisSide = s.chassisSide := rfl

@[simp] theorem State.countSlot_chassis (s : State) (m : Masks) : (s.countSlot m).chassisSide = s.chassisSide := by
  unfold State.countSlot
  simp

@[simp] theorem State.maskDevice_chassis (s : State) : s.maskDevice.chassisSide = s.chassisSide := by
  unfold State.maskDevice
  split <;> simp

/-- A transfer slot keeps the chassis side if its command does. -/
theorem State.takeSlot_chassis (s : State) (c : CommandLines) (m : Masks) (effect : State → State)
    (h : ∀ t, (effect t).chassisSide = t.chassisSide) :
    (s.takeSlot c m effect).chassisSide = s.chassisSide := by
  unfold State.takeSlot
  simp only
  split <;> simp [h]

@[simp] theorem State.startBurst_chassis (s : State) (m : ModeFields) (d : Direction) (b : BankId) (row : BitVec 13)
    (c : BitVec 10) (ap : Bool) : (s.startBurst m d b row c ap).chassisSide = s.chassisSide := by
  unfold State.startBurst
  simp only
  split <;> simp

@[simp] theorem State.passAccess_chassis (s : State) (d : Direction) (b : BankId) :
    (s.passAccess d b).chassisSide = s.chassisSide := by
  unfold State.passAccess
  (repeat' split) <;> simp

@[simp] theorem State.access_chassis (s : State) (d : Direction) (b : BankId) (c : BitVec 10) (ap : Bool) :
    (s.access d b c ap).chassisSide = s.chassisSide := by
  unfold State.access
  simp only
  (repeat' split) <;> simp

@[simp] theorem State.activateBank_chassis (s : State) (b : BankId) (row : BitVec 13) :
    (s.activateBank b row).chassisSide = s.chassisSide := by
  unfold State.activateBank
  simp

@[simp] theorem State.prechargeBank_chassis (s : State) (b : BankId) :
    (s.prechargeBank b).chassisSide = s.chassisSide := by
  unfold State.prechargeBank
  simp only
  (repeat' split) <;> simp

@[simp] theorem State.prechargeAllBanks_chassis (s : State) : s.prechargeAllBanks.chassisSide = s.chassisSide := by
  unfold State.prechargeAllBanks
  simp only
  split <;> simp

@[simp] theorem State.checkReady_chassis (s : State) : s.checkReady.chassisSide = s.chassisSide := by
  unfold State.checkReady
  split <;> simp

@[simp] theorem State.refresh_chassis (s : State) : s.refresh.chassisSide = s.chassisSide := by
  unfold State.refresh
  simp only
  split <;> simp

@[simp] theorem State.enterSelfRefresh_chassis (s : State) : s.enterSelfRefresh.chassisSide = s.chassisSide := by
  unfold State.enterSelfRefresh
  simp only
  split <;> simp

@[simp] theorem State.exitSelfRefresh_chassis (s : State) : s.exitSelfRefresh.chassisSide = s.chassisSide := by
  unfold State.exitSelfRefresh
  simp only
  split <;> simp

@[simp] theorem State.setMode_chassis (s : State) (b : BankId) (v : BitVec 13) :
    (s.setMode b v).chassisSide = s.chassisSide := by
  unfold State.setMode
  simp only
  (repeat' split) <;> simp

@[simp] theorem State.driveData_chassis (s : State) (d : Direction) (l : Lanes) :
    (s.driveData d l).chassisSide = s.chassisSide := rfl

@[simp] theorem State.driveWord_chassis (s : State) (d : Direction) (w : Word) :
    (s.driveWord d w).chassisSide = s.chassisSide := rfl

@[simp] theorem State.crossLoose_chassis (s : State) (w : BusWord) : (s.crossLoose w).chassisSide = s.chassisSide := by
  unfold State.crossLoose
  (repeat' split) <;> simp

@[simp] theorem State.windowWord_chassis (s : State) (b : Burst) (l : Lanes) :
    (s.windowWord b l).chassisSide = s.chassisSide := by
  unfold State.windowWord
  (repeat' split) <;> simp

@[simp] theorem State.crossWord_chassis (s : State) (b : Burst) (d : Word) :
    (s.crossWord b d).chassisSide = s.chassisSide := by
  unfold State.crossWord
  simp only
  (repeat' split) <;> simp

@[simp] theorem State.passSlots_chassis (k : Nat) (s : State) : (State.passSlots k s).chassisSide = s.chassisSide := by
  induction k generalizing s with
  | zero => rfl
  | succ k ih => unfold State.passSlots; simp [ih]

@[simp] theorem State.crossDue_chassis (s : State) (d : BusWord) : (s.crossDue d).chassisSide = s.chassisSide := by
  unfold State.crossDue
  simp only [State.completeBurst_chassis, State.updatePath_chassis]
  exact foldl_keeps State.chassisSide _ (fun t b => by simp) _ _

@[simp] theorem State.transferWord_chassis (s : State) (d : BusWord) :
    (s.transferWord d).chassisSide = s.chassisSide := by
  unfold State.transferWord
  (repeat' split) <;> simp

end Sys2Proof.Machine
end

