-- ==== Sys2Proof/WellFormed.lean ====
section
/-! DEFINITION. Which commands are well formed. Most bounds of the manual are carried by the operand types;
what is left is said here. The machine gives an ill-formed command a meaning all the same (log 18). -/

namespace Sys2Proof

/-- An answer frame has at least its status byte and its check byte (03 section 3.2). -/
def answerWellFormed (bytes : List Byte) : Bool := 2 ≤ bytes.length

/-- Endpoints 13..16 are supplies, which are never polled (R42). -/
def pollWellFormed (endpoint : Endpoint) : Bool := !(13 ≤ endpoint.val && endpoint.val ≤ 16)

/-- A command that the chassis or the processor can send. -/
def Instr.wellFormed : Instr → Bool
  | .answerReceived _ bytes => answerWellFormed bytes
  | .pollTimerExpiry e => pollWellFormed e
  | .activate _ _ _ | .read _ _ _ _ | .write _ _ _ _ | .precharge _ _ | .prechargeAll _ | .autoRefresh _ => true
  | .selfRefreshEntry _ | .selfRefreshExit _ | .modeRegisterSet _ _ _ | .burstStop _ | .noOperation _ => true
  | .deselect _ | .clockSuspend _ | .burstWordTransfer _ => true
  | .sync | .powerOn | .powerOff | .setGuard | .clearFault | .setSlotTiming | .setButton | .setRedundancy => true
  | .setBaseLoad | .setPriority | .overrideClass | .setSupplyRating | .cancelRequest | .loadCurve => true
  | .setZoneLimits | .setFanMode | .setOffset | .setGroup | .setPin | .setFailback | .fetchPages => true
  | .dropPages | .selectView | .reread | .ackEvent | .setAttention | .unknownCommand => true
  | .processorReset | .processorResetRelease | .chassisReset _ | .chassisResetRelease => true
  | .transactionTimeout | .reconnectTimerExpiry _ | .requestFrameSent => true
  | .presenceLineChange _ _ | .removal _ | .presenceDebounceExpiry _ | .identificationTimerExpiry _ => true
  | .powerGoodRise _ | .rampTimerExpiry _ | .powerGoodFall _ | .overcurrentRise _ _ | .stopTimerExpiry _ => true
  | .buttonLineChange _ _ | .buttonDebounceExpiry _ | .supplyLineChange _ _ _ | .supplyDebounceExpiry _ _ => true
  | .capTimerExpiry _ | .freshnessTimerExpiry _ | .zoneUpdate _ | .tachPulse _ => true
  | .modulePresentLineChange _ _ | .moduleDebounceExpiry _ | .graceTimerExpiry _ => true
  | .uplinkLinkChange _ _ | .farEndFaultChange _ _ | .speedLineChange _ _ | .upHoldOffExpiry _ => true
  | .downHoldOffExpiry _ | .failbackTimerExpiry _ => true

end Sys2Proof
end

