-- ==== Sys2Proof/Laws/PerInstr.lean ====
section
/-! SUPPORT. The family `WellFormedRange`: what an ill-formed command can be, one lemma per command. -/

namespace Sys2Proof.Laws.WellFormedRange

/-- A command is well formed unless it is an answer without room for its status and check bytes or the poll of a supply. -/
def Statement (i : Instr) : Prop :=
  i.wellFormed = true ∨ (∃ e bytes, i = .answerReceived e bytes ∧ bytes.length < 2) ∨
    ∃ e, i = .pollTimerExpiry e ∧ 13 ≤ e.val ∧ e.val ≤ 16

theorem activate (bank : BankId) (row : BitVec 13) (masks : Masks) : Statement (.activate bank row masks) := .inl rfl
theorem read (bank : BankId) (column : BitVec 10) (autoPrecharge : Bool) (lines : AccessLines) : Statement (.read bank column autoPrecharge lines) := .inl rfl
theorem write (bank : BankId) (column : BitVec 10) (autoPrecharge : Bool) (lines : AccessLines) : Statement (.write bank column autoPrecharge lines) := .inl rfl
theorem precharge (bank : BankId) (lines : PrechargeLines) : Statement (.precharge bank lines) := .inl rfl
theorem prechargeAll (lines : PrechargeAllLines) : Statement (.prechargeAll lines) := .inl rfl
theorem autoRefresh (lines : AddressLines) : Statement (.autoRefresh lines) := .inl rfl
theorem selfRefreshEntry (lines : AddressLines) : Statement (.selfRefreshEntry lines) := .inl rfl
theorem selfRefreshExit (lines : StrobeLines) : Statement (.selfRefreshExit lines) := .inl rfl
theorem modeRegisterSet (bank : BankId) (value : BitVec 13) (masks : Masks) : Statement (.modeRegisterSet bank value masks) := .inl rfl
theorem burstStop (lines : AddressLines) : Statement (.burstStop lines) := .inl rfl
theorem noOperation (lines : AddressLines) : Statement (.noOperation lines) := .inl rfl
theorem deselect (lines : DeselectLines) : Statement (.deselect lines) := .inl rfl
theorem clockSuspend (lines : StrobeLines) : Statement (.clockSuspend lines) := .inl rfl
theorem burstWordTransfer (word : BusWord) : Statement (.burstWordTransfer word) := .inl rfl
theorem sync : Statement (.sync) := .inl rfl
theorem powerOn : Statement (.powerOn) := .inl rfl
theorem powerOff : Statement (.powerOff) := .inl rfl
theorem setGuard : Statement (.setGuard) := .inl rfl
theorem clearFault : Statement (.clearFault) := .inl rfl
theorem setSlotTiming : Statement (.setSlotTiming) := .inl rfl
theorem setButton : Statement (.setButton) := .inl rfl
theorem setRedundancy : Statement (.setRedundancy) := .inl rfl
theorem setBaseLoad : Statement (.setBaseLoad) := .inl rfl
theorem setPriority : Statement (.setPriority) := .inl rfl
theorem overrideClass : Statement (.overrideClass) := .inl rfl
theorem setSupplyRating : Statement (.setSupplyRating) := .inl rfl
theorem cancelRequest : Statement (.cancelRequest) := .inl rfl
theorem loadCurve : Statement (.loadCurve) := .inl rfl
theorem setZoneLimits : Statement (.setZoneLimits) := .inl rfl
theorem setFanMode : Statement (.setFanMode) := .inl rfl
theorem setOffset : Statement (.setOffset) := .inl rfl
theorem setGroup : Statement (.setGroup) := .inl rfl
theorem setPin : Statement (.setPin) := .inl rfl
theorem setFailback : Statement (.setFailback) := .inl rfl
theorem fetchPages : Statement (.fetchPages) := .inl rfl
theorem dropPages : Statement (.dropPages) := .inl rfl
theorem selectView : Statement (.selectView) := .inl rfl
theorem reread : Statement (.reread) := .inl rfl
theorem ackEvent : Statement (.ackEvent) := .inl rfl
theorem setAttention : Statement (.setAttention) := .inl rfl
theorem processorReset : Statement (.processorReset) := .inl rfl
theorem processorResetRelease : Statement (.processorResetRelease) := .inl rfl
theorem chassisReset (straps : Straps) : Statement (.chassisReset straps) := .inl rfl
theorem answerReceived (endpoint : Endpoint) (bytes : List Byte) : Statement (.answerReceived endpoint bytes) := by
  by_cases h : 2 ≤ bytes.length
  · exact .inl (by simp [Instr.wellFormed, answerWellFormed, h])
  · exact .inr (.inl ⟨endpoint, bytes, rfl, by omega⟩)
theorem transactionTimeout : Statement (.transactionTimeout) := .inl rfl
theorem reconnectTimerExpiry (endpoint : Endpoint) : Statement (.reconnectTimerExpiry endpoint) := .inl rfl
theorem pollTimerExpiry (endpoint : Endpoint) : Statement (.pollTimerExpiry endpoint) := by
  by_cases h : 13 ≤ endpoint.val ∧ endpoint.val ≤ 16
  · exact .inr (.inr ⟨endpoint, rfl, h⟩)
  · exact .inl (by simp only [Instr.wellFormed, pollWellFormed]; simp at h ⊢; omega)
theorem presenceLineChange (slot : SlotId) (level : Bool) : Statement (.presenceLineChange slot level) := .inl rfl
theorem removal (slot : SlotId) : Statement (.removal slot) := .inl rfl
theorem presenceDebounceExpiry (slot : SlotId) : Statement (.presenceDebounceExpiry slot) := .inl rfl
theorem identificationTimerExpiry (slot : SlotId) : Statement (.identificationTimerExpiry slot) := .inl rfl
theorem powerGoodRise (slot : SlotId) : Statement (.powerGoodRise slot) := .inl rfl
theorem rampTimerExpiry (slot : SlotId) : Statement (.rampTimerExpiry slot) := .inl rfl
theorem powerGoodFall (slot : SlotId) : Statement (.powerGoodFall slot) := .inl rfl
theorem overcurrentRise (slot : SlotId) (level : Bool) : Statement (.overcurrentRise slot level) := .inl rfl
theorem stopTimerExpiry (slot : SlotId) : Statement (.stopTimerExpiry slot) := .inl rfl
theorem buttonLineChange (slot : SlotId) (level : Bool) : Statement (.buttonLineChange slot level) := .inl rfl
theorem buttonDebounceExpiry (slot : SlotId) : Statement (.buttonDebounceExpiry slot) := .inl rfl
theorem supplyLineChange (bay : BayId) (line : SupplyLine) (level : Bool) : Statement (.supplyLineChange bay line level) := .inl rfl
theorem supplyDebounceExpiry (bay : BayId) (line : SupplyLine) : Statement (.supplyDebounceExpiry bay line) := .inl rfl
theorem capTimerExpiry (slot : SlotId) : Statement (.capTimerExpiry slot) := .inl rfl
theorem freshnessTimerExpiry (source : SourceId) : Statement (.freshnessTimerExpiry source) := .inl rfl
theorem zoneUpdate (zone : ZoneId) : Statement (.zoneUpdate zone) := .inl rfl
theorem tachPulse (fan : FanId) : Statement (.tachPulse fan) := .inl rfl
theorem modulePresentLineChange (zone : ZoneId) (level : Bool) : Statement (.modulePresentLineChange zone level) := .inl rfl
theorem moduleDebounceExpiry (zone : ZoneId) : Statement (.moduleDebounceExpiry zone) := .inl rfl
theorem graceTimerExpiry (zone : ZoneId) : Statement (.graceTimerExpiry zone) := .inl rfl
theorem uplinkLinkChange (uplink : UplinkId) (level : Bool) : Statement (.uplinkLinkChange uplink level) := .inl rfl
theorem farEndFaultChange (uplink : UplinkId) (level : Bool) : Statement (.farEndFaultChange uplink level) := .inl rfl
theorem speedLineChange (uplink : UplinkId) (code : Fin 4) : Statement (.speedLineChange uplink code) := .inl rfl
theorem upHoldOffExpiry (uplink : UplinkId) : Statement (.upHoldOffExpiry uplink) := .inl rfl
theorem downHoldOffExpiry (uplink : UplinkId) : Statement (.downHoldOffExpiry uplink) := .inl rfl
theorem failbackTimerExpiry (slot : SlotId) : Statement (.failbackTimerExpiry slot) := .inl rfl
theorem unknownCommand : Statement (.unknownCommand) := .inl rfl
theorem chassisResetRelease : Statement (.chassisResetRelease) := .inl rfl
theorem requestFrameSent : Statement (.requestFrameSent) := .inl rfl

end Sys2Proof.Laws.WellFormedRange
end

