-- ==== Sys2Proof/Laws/Reach.lean ====
section
/-! SUPPORT. How far each shared operation reaches: the records it may change, every other field as it was. -/

namespace Sys2Proof.Machine

/-- A fold changes only what its steps change, for a relation that holds of no change and of one change after another. -/
theorem foldl_reach {α β : Type} (R : α → α → Prop) (refl : ∀ a, R a a) (trans : ∀ a b c, R a b → R b c → R a c)
    (f : α → β → α) (h : ∀ a b, R a (f a b)) (l : List β) (a : α) : R a (l.foldl f a) := by
  induction l generalizing a with
  | nil => exact refl a
  | cons b l ih => exact trans _ _ _ (h a b) (ih _)

/-! ## The Link Engine's requests change the link records only -/

/-- Only the Link Engine's records differ. -/
def OnlyLink (s t : State) : Prop := ∃ l, t = { s with link := l }

theorem OnlyLink.refl (s : State) : OnlyLink s s := ⟨s.link, rfl⟩

theorem OnlyLink.trans {s t u : State} : OnlyLink s t → OnlyLink t u → OnlyLink s u := by
  rintro ⟨l, rfl⟩ ⟨m, rfl⟩
  exact ⟨m, rfl⟩

theorem State.updateLink_reach (s : State) (f : LinkEngine → LinkEngine) : OnlyLink s (s.updateLink f) := ⟨_, rfl⟩

theorem State.arbitrate_reach (s : State) : OnlyLink s s.arbitrate := by
  unfold State.arbitrate
  split
  · exact .refl s
  · split
    · exact ⟨_, rfl⟩
    · exact .refl s

theorem State.request_reach (s : State) (r : Request) : OnlyLink s (s.request r) := by
  unfold State.request
  split
  · exact .refl s
  · exact (s.updateLink_reach _).trans (State.arbitrate_reach _)

theorem State.requestKind_reach (s : State) (e : Endpoint) (k : TransactionKind) (w : Requester) :
    OnlyLink s (s.requestKind e k w) := s.request_reach _

theorem State.requestIfNone_reach (s : State) (e : Endpoint) (k : TransactionKind) :
    OnlyLink s (s.requestIfNone e k) := by
  unfold State.requestIfNone
  split
  · exact .refl s
  · exact s.requestKind_reach _ _ _

theorem State.linkPresent_reach (s : State) (e : Endpoint) : OnlyLink s (s.linkPresent e) := ⟨_, rfl⟩

theorem State.linkAbsent_reach (s : State) (e : Endpoint) : OnlyLink s (s.linkAbsent e) := by
  unfold State.linkAbsent
  split
  · exact .refl s
  · exact ⟨_, rfl⟩

theorem State.syncPoll_reach (s : State) (e : Endpoint) : OnlyLink s (s.syncPoll e) := by
  unfold State.syncPoll
  (repeat' split) <;> first | exact .refl s | exact ⟨_, rfl⟩

/-! ## The Uplink Allocator's work changes its own records and the Link Engine's -/

/-- Only the uplink, pin and link records differ. -/
def OnlyUplinks (s t : State) : Prop := ∃ l u, t = { s with link := l, uplinks := u }

theorem OnlyUplinks.refl (s : State) : OnlyUplinks s s := ⟨s.link, s.uplinks, rfl⟩

theorem OnlyUplinks.trans {s t u : State} : OnlyUplinks s t → OnlyUplinks t u → OnlyUplinks s u := by
  rintro ⟨l, k, rfl⟩ ⟨m, j, rfl⟩
  exact ⟨m, j, rfl⟩

theorem OnlyLink.uplinks {s t : State} : OnlyLink s t → OnlyUplinks s t := by
  rintro ⟨l, rfl⟩
  exact ⟨l, s.uplinks, rfl⟩

theorem State.updatePin_reach (s : State) (n : SlotId) (f : Pin → Pin) : OnlyUplinks s (s.updatePin n f) :=
  ⟨_, _, rfl⟩

theorem State.updatePort_reach (s : State) (u : UplinkId) (f : Uplink → Uplink) : OnlyUplinks s (s.updatePort u f) :=
  ⟨_, _, rfl⟩

theorem State.reselect_reach (s : State) : OnlyUplinks s s.reselect := by
  unfold State.reselect
  exact foldl_reach OnlyUplinks .refl (fun _ _ _ => .trans) _
    (fun t n => by unfold State.reselectBlade; split <;> exact t.updatePin_reach _ _) _ _

theorem State.recomputeRates_reach (s : State) : OnlyUplinks s s.recomputeRates := by
  unfold State.recomputeRates
  exact foldl_reach OnlyUplinks .refl (fun _ _ _ => .trans) _ (fun t n => t.updatePin_reach _ _) _ _

theorem State.requestPins_reach (s : State) : OnlyUplinks s s.requestPins := (s.requestKind_reach _ _ _).uplinks

theorem State.programIfChanged_reach (s t : State) (h : OnlyUplinks s t) :
    OnlyUplinks s (State.programIfChanged s t) := by
  unfold State.programIfChanged
  split
  · exact h
  · exact h.trans t.requestPins_reach

theorem State.rework_reach (s : State) : OnlyUplinks s s.rework :=
  State.programIfChanged_reach _ _ (s.reselect_reach.trans (State.recomputeRates_reach _))

theorem State.rerate_reach (s : State) : OnlyUplinks s s.rerate :=
  State.programIfChanged_reach _ _ s.recomputeRates_reach

theorem State.unconfirmPins_reach (s : State) : OnlyUplinks s s.unconfirmPins := by
  unfold State.unconfirmPins
  exact foldl_reach OnlyUplinks .refl (fun _ _ _ => .trans) _ (fun t n => t.updatePin_reach _ _) _ _

theorem State.confirmPins_reach (s : State) (table : List (Nat × Nat)) : OnlyUplinks s (s.confirmPins table) := by
  unfold State.confirmPins
  exact foldl_reach OnlyUplinks .refl (fun _ _ _ => .trans) _ (fun t n => t.updatePin_reach _ _) _ _

theorem State.pinsFailed_reach (s : State) : OnlyUplinks s s.pinsFailed :=
  s.unconfirmPins_reach.trans (State.requestPins_reach _)

theorem State.noticePortSpeeds_reach (s : State) : OnlyUplinks s s.noticePortSpeeds := by
  unfold State.noticePortSpeeds
  refine foldl_reach OnlyUplinks .refl (fun _ _ _ => .trans) _ (fun t n => ?_) _ _
  unfold State.storePortSpeed
  simp only
  (repeat' split) <;>
    first | exact .refl t | exact (t.updatePin_reach _ _).trans (State.rerate_reach _) | exact t.updatePin_reach _ _

/-! ## The Budget Unit's records -/

/-- Only the Budget Unit's records differ. -/
def OnlyBudget (s t : State) : Prop := ∃ b, t = { s with budget := b }

theorem State.joinQueue_reach (s : State) (n : SlotId) (o : Origin) : OnlyBudget s (s.joinQueue n o) := ⟨_, rfl⟩

theorem State.withdrawFromQueue_reach (s : State) (n : SlotId) : OnlyBudget s (s.withdrawFromQueue n) := ⟨_, rfl⟩

theorem State.replaceInQueue_reach (s : State) (n : SlotId) : OnlyBudget s (s.replaceInQueue n) := by
  unfold State.replaceInQueue
  split
  · exact ⟨s.budget, rfl⟩
  · exact ⟨_, rfl⟩

theorem State.releaseBudget_reach (s : State) (n : SlotId) : OnlyBudget s (s.releaseBudget n) := ⟨_, rfl⟩

theorem State.leftPowered_reach (s : State) (n : SlotId) : OnlyBudget s (s.leftPowered n) := by
  unfold State.leftPowered
  split
  · exact ⟨_, rfl⟩
  · exact ⟨s.budget, rfl⟩

theorem State.withdrawDecrease_reach (s : State) (n : SlotId) : OnlyBudget s (s.withdrawDecrease n) := ⟨_, rfl⟩

theorem State.setThermalFlag_reach (s : State) (n : SlotId) (b : Bool) : OnlyBudget s (s.setThermalFlag n b) := by
  unfold State.setThermalFlag
  split
  · exact ⟨s.budget, rfl⟩
  · exact ⟨_, rfl⟩

theorem State.reportAllocation_reach (s : State) (z : ZoneId) (w : Nat) : OnlyBudget s (s.reportAllocation z w) := by
  unfold State.reportAllocation
  split
  · exact ⟨s.budget, rfl⟩
  · exact ⟨_, rfl⟩

end Sys2Proof.Machine
end

