-- ==== Sys2Proof/Laws/SidesOfRows.lean ====
section
/-! SUPPORT. The operations of the chassis rows keep the processor side: one lemma per operation. -/

namespace Sys2Proof.Machine

/-! ## What follows an answer, a line or a timer (the rows' own operations) -/

@[simp] theorem State.haltedFlag_side (s : State) (n : SlotId) :
    (s.haltedFlag n).processorSide = s.processorSide := by
  unfold State.haltedFlag
  (repeat' split) <;> simp

@[simp] theorem State.powerRequestFlag_side (s : State) (n : SlotId) (b : Bool) :
    (s.powerRequestFlag n b).processorSide = s.processorSide := by
  unfold State.powerRequestFlag
  (repeat' split) <;> simp

@[simp] theorem State.bladeFlags_side (s : State) (n : SlotId) (f : Byte) (b : Bool) :
    (s.bladeFlags n f b).processorSide = s.processorSide := by
  unfold State.bladeFlags
  (repeat' split) <;> simp

@[simp] theorem State.readyFlag_side (s : State) (b : Bool) : (s.readyFlag b).processorSide = s.processorSide := by
  unfold State.readyFlag
  (repeat' split) <;> simp <;> rfl

@[simp] theorem State.pollAnswered_side (s : State) (e : Endpoint) (d : List Byte) (b : Bool) :
    (s.pollAnswered e d b).processorSide = s.processorSide := by
  unfold State.pollAnswered
  (repeat' split) <;> simp

@[simp] theorem State.capOutcome_side (s : State) (e : Endpoint) (w : Nat) (r : TransactionResult) :
    (s.capOutcome e w r).processorSide = s.processorSide := by
  unfold State.capOutcome
  (repeat' split) <;> simp

@[simp] theorem State.handOutcome_side (s : State) (t : Transaction) (r : TransactionResult) :
    (s.handOutcome t r).processorSide = s.processorSide := by
  unfold State.handOutcome
  (repeat' split) <;> simp

@[simp] theorem State.followUp_side (s : State) (e : Endpoint) : (s.followUp e).processorSide = s.processorSide := by
  unfold State.followUp
  (repeat' split) <;> simp

@[simp] theorem State.followLost_side (s : State) (e : Endpoint) :
    (s.followLost e).processorSide = s.processorSide := by
  unfold State.followLost
  simp only
  rw [State.abortFetch_side]
  split <;> simp <;> rfl

@[simp] theorem State.notSent_side (s : State) (r : Request) : (s.notSent r).processorSide = s.processorSide := by
  unfold State.notSent
  (repeat' split) <;> simp

@[simp] theorem State.enterLost_side (s : State) (e : Endpoint) :
    (s.enterLost e).processorSide = s.processorSide := by
  unfold State.enterLost
  exact (foldl_keeps State.processorSide _ (fun t r => by simp) _ _).trans (by simp)

@[simp] theorem State.appendLink_side (s : State) (e : Endpoint) (l : LinkState) :
    (s.appendLink e l).processorSide = s.processorSide := by
  rfl

@[simp] theorem State.linkSuccess_side (s : State) (e : Endpoint) :
    (s.linkSuccess e).processorSide = s.processorSide := by
  unfold State.linkSuccess
  simp only
  (repeat' split) <;> simp

@[simp] theorem State.linkFailure_side (s : State) (e : Endpoint) :
    (s.linkFailure e).processorSide = s.processorSide := by
  unfold State.linkFailure
  simp only
  (repeat' split) <;> simp

@[simp] theorem State.applyResult_side (s : State) (e : Endpoint) (r : TransactionResult) :
    (s.applyResult e r).processorSide = s.processorSide := by
  unfold State.applyResult
  (repeat' split) <;> simp

@[simp] theorem State.afterResult_side (s : State) (t : Transaction) (r : TransactionResult) :
    (s.afterResult t r).processorSide = s.processorSide := by
  unfold State.afterResult
  (repeat' split) <;> simp

@[simp] theorem State.freeEngine_side (s : State) : s.freeEngine.processorSide = s.processorSide := by
  unfold State.freeEngine
  simp

@[simp] theorem State.judged_side (s : State) (t : Transaction) (r : TransactionResult) :
    (s.judged t r).processorSide = s.processorSide := by
  unfold State.judged
  (repeat' split) <;> simp

@[simp] theorem State.debouncePresence_side (s : State) (n : SlotId) :
    (s.debouncePresence n).processorSide = s.processorSide := by
  unfold State.debouncePresence
  (repeat' split) <;> simp

@[simp] theorem State.identificationOver_side (s : State) (n : SlotId) :
    (s.identificationOver n).processorSide = s.processorSide := by
  unfold State.identificationOver
  (repeat' split) <;> simp

@[simp] theorem State.buttonLine_side (s : State) (n : SlotId) (l : Bool) :
    (s.buttonLine n l).processorSide = s.processorSide := by
  unfold State.buttonLine
  simp

@[simp] theorem State.buttonStop_side (s : State) (n : SlotId) :
    (s.buttonStop n).processorSide = s.processorSide := by
  unfold State.buttonStop
  (repeat' split) <;> simp

@[simp] theorem State.buttonEdge_side (s : State) (n : SlotId) :
    (s.buttonEdge n).processorSide = s.processorSide := by
  unfold State.buttonEdge
  simp only
  split <;> simp

@[simp] theorem State.debounceButton_side (s : State) (n : SlotId) :
    (s.debounceButton n).processorSide = s.processorSide := by
  unfold State.debounceButton
  simp only
  (repeat' split) <;> simp

@[simp] theorem State.supplyPresence_side (s : State) (i : BayId) (a b : SupplyState) :
    (s.supplyPresence i a b).processorSide = s.processorSide := by
  unfold State.supplyPresence
  (repeat' split) <;> simp

@[simp] theorem State.supplyChanged_side (s : State) (i : BayId) (a b : SupplyState) :
    (s.supplyChanged i a b).processorSide = s.processorSide := by
  unfold State.supplyChanged
  simp

@[simp] theorem State.debounceSupply_side (s : State) (i : BayId) (l : SupplyLine) :
    (s.debounceSupply i l).processorSide = s.processorSide := by
  unfold State.debounceSupply
  simp only
  have h : (s.updateSupply i fun r => r.debounce l).processorSide = s.processorSide :=
    State.updateSupply_side _ _ _ (fun r => by cases l <;> rfl)
  split <;> simp [h]

@[simp] theorem State.debounceModule_side (s : State) (z : ZoneId) :
    (s.debounceModule z).processorSide = s.processorSide := by
  unfold State.debounceModule
  simp only
  (repeat' split) <;> simp

@[simp] theorem State.syncDownTimer_side (s : State) (u : UplinkId) :
    (s.syncDownTimer u).processorSide = s.processorSide := by
  unfold State.syncDownTimer
  simp

@[simp] theorem State.linkLine_side (s : State) (u : UplinkId) : (s.linkLine u).processorSide = s.processorSide := by
  unfold State.linkLine
  (repeat' split) <;> simp

@[simp] theorem State.faultLine_side (s : State) (u : UplinkId) :
    (s.faultLine u).processorSide = s.processorSide := by
  unfold State.faultLine
  (repeat' split) <;> simp

@[simp] theorem State.changeSpeed_side (s : State) (u : UplinkId) :
    (s.changeSpeed u).processorSide = s.processorSide := by
  unfold State.changeSpeed
  simp

end Sys2Proof.Machine
end

