-- ==== Sys2Proof/Tests/Slice0.lean ====
section
/-! SUPPORT. Tests of the model: ill-formed terms, the words of the encodings, the manual's worked figures, and for every
obligation with hypotheses a concrete state and operands that meet them. Expected values come from spec/. -/

namespace Sys2Proof.Tests

open Sys2Proof Sys2Proof.Machine

/-! ## States of the tests -/

/-- Both reset lines released, nothing else. -/
def live : State := { State.reset with chassisReset := false, processorReset := false }

/-- A command record in command slot 3 with tag 0x11. -/
def post (code : Byte) (a0 a1 a2 : Word) : CommandRecord := ⟨3, code, 0x11, a0, a1, a2, 0, 0, 0, 0⟩

/-- One command waits in the intake queue. -/
def queueing (s : State) (r : CommandRecord) : State := { s with window := { s.window with queue := [r] } }

/-- Slot 1 stands in a record; a powered one is admitted, a queued one queued. -/
def seat (r : SlotRecord) : State :=
  { live with
    slots := live.slots.set 0 r
    budget := { live.budget with
      admitted := if r.state.powered then [0] else []
      queue := if r.state = .queued then [⟨0, .processor, 0⟩] else []
      arrivals := 1 } }

/-- An endpoint's link stands in a state. -/
def linked (s : State) (e : Endpoint) (l : LinkState) : State :=
  { s with link := { s.link with records := s.link.records.set e { state := l } } }

/-- Supply 1 is OK and rated by an override. -/
def supplied (s : State) (watts : Nat) : State :=
  { s with budget := { s.budget with
      supplies := s.budget.supplies.set 0 { present := true, ok := true, override := some watts }
      redundancy := .none } }

/-- Slot 1 has a class override. -/
def classed (s : State) (c : PowerClass) : State :=
  { s with budget := { s.budget with records := s.budget.records.set 0 { s.budget.records[0] with override := some c } } }

/-- The path READY under a valid mode of four words, with bank 1 ACTIVE on row 5. -/
def ready : State :=
  { live with path := { live.path with
      state := .ready, mode := .valid ⟨.four, .sequential, .two, false⟩, banks := live.path.banks.set 1 (.active 5) } }

/-- A write burst of the intake row on bank 1 whose first word is due. -/
def intakeBurst : Burst :=
  { bank := 1, row := 0, start := 4, direction := .write, length := .four, type := .sequential, latency := 2,
    autoPrecharge := false, window := .intake, elapsed := 0, next := 0, limit := some 4, columns := [], snapshot := [] }

/-- A burst is in progress. -/
def bursting (b : Burst) : State := { ready with path := { ready.path with burst := some b } }

/-- One field of a state. -/
def field {α : Type} (o : Host.Outcome State Fault Refusal) (f : State → α) : Option α :=
  match o with
  | .next t => some (f t)
  | .fault _ => none
  | .refused _ => none

/-! ## Well-formedness and encodings -/

/-- 03 section 3.2: an answer of one byte is no frame. -/
theorem test_short_answer_refused : Instr.wellFormed (.answerReceived 1 [1]) = false := by decide

/-- 03 section 3.2: a status byte and a check byte are one. -/
theorem test_answer_accepted : Instr.wellFormed (.answerReceived 1 [1, 255]) = true := by decide

/-- R42: no supply is polled. -/
theorem test_supply_poll_refused :
    [13, 14, 15, 16].all (fun e => !Instr.wellFormed (.pollTimerExpiry e)) = true := by decide

/-- R2's strobe table: activate, read with auto-precharge, mode register set and self-refresh entry, line by line. -/
theorem test_strobes :
    decodeLines true false ⟨⟨false, false, true, true⟩, true, 2, 0x1123⟩ {} = .activate 2 0x1123 {} ∧
    decodeLines true false ⟨⟨false, true, false, true⟩, true, 1, 0x1405⟩ {} = .read 1 5 true { upper := 2 } ∧
    decodeLines true false ⟨⟨false, false, false, false⟩, true, 0, 0x033⟩ {} = .modeRegisterSet 0 0x033 {} ∧
    decodeLines true false ⟨⟨false, false, false, true⟩, false, 1, 7⟩ {} = .selfRefreshEntry { bank := 1, address := 7 } := by
  decide

/-- R2's strobe table: write, the two precharges, burst stop, auto refresh, no operation, deselect, clock low, exit. -/
theorem test_strobes_rest :
    decodeLines true false ⟨⟨false, true, false, false⟩, true, 3, 0x3FF⟩ {} = .write 3 0x3FF false {} ∧
    decodeLines true false ⟨⟨false, false, true, false⟩, true, 3, 0x802⟩ {} = .precharge 3 { upper := 1, lower := 2 } ∧
    decodeLines true false ⟨⟨false, false, true, false⟩, true, 3, 0x400⟩ {} = .prechargeAll { bank := 3 } ∧
    decodeLines true false ⟨⟨false, true, true, false⟩, true, 2, 9⟩ {} = .burstStop { bank := 2, address := 9 } ∧
    decodeLines true false ⟨⟨false, false, false, true⟩, true, 0, 0⟩ {} = .autoRefresh {} ∧
    decodeLines true false ⟨⟨false, true, true, true⟩, true, 0, 0⟩ {} = .noOperation {} ∧
    decodeLines true false ⟨⟨true, false, true, true⟩, true, 0, 0⟩ {} = .deselect { rowStrobe := false } ∧
    decodeLines true false ⟨⟨true, true, true, true⟩, false, 0, 0⟩ {} = .clockSuspend {} ∧
    decodeLines false true ⟨⟨false, true, true, true⟩, true, 0, 0⟩ {} =
      .selfRefreshExit { strobes := ⟨false, true, true, true⟩ } := by decide

/-- R25: codes of every family, and one that is not listed. -/
theorem test_codes :
    commandOfCode 0x01 = .sync ∧ commandOfCode 0x23 = .overrideClass ∧ commandOfCode 0x33 = .setOffset ∧
    commandOfCode 0x42 = .setFailback ∧ commandOfCode 0x53 = .reread ∧ commandOfCode 0x60 = .ackEvent ∧
    commandOfCode 0x02 = .unknownCommand := by decide

/-- R5: 0x033 is length 8, sequential, latency 3; 0x034 has a reserved length, 0x03F is a full row interleaved. -/
theorem test_modes :
    decodeMode 0 0x033 = .valid ⟨.eight, .sequential, .three, false⟩ ∧ (decodeMode 0 0x034).isValid = false ∧
    (decodeMode 0 0x03F).isValid = false ∧ (decodeMode 1 0x033).isValid = false := by decide

/-! ## Worked figures -/

/-- 01 section 1.9.1. -/
theorem test_column_order :
    (List.range 8).map (wordColumn .eight .interleaved 13) = [13, 12, 15, 14, 9, 8, 11, 10] ∧
    (List.range 4).map (wordColumn .four .sequential 6) = [6, 7, 4, 5] ∧
    (List.range 8).map (wordColumn .eight .interleaved 31) = [31, 30, 29, 28, 27, 26, 25, 24] ∧
    (List.range 4).map (wordColumn .fullRow .sequential 1022) = [1022, 1023, 0, 1] := by decide

/-- R134's figures on the reset curve. -/
theorem test_curve : [65, 30, 96, 72].map (curveDuty resetCurve) = [505, 300, 1000, 650] := by decide

/-- 07 section 7.10: the boosts and slews of 7.10.1, 7.10.2 and 7.10.3. -/
theorem test_duty_law :
    boostedDuty 505 1 = 1000 ∧ slewedDuty 700 1000 100 50 = 800 ∧ slewedDuty 1000 942 100 50 = 950 ∧
    slewedDuty 950 903 100 50 = 903 ∧ boostedDuty 420 1 = 840 ∧ slewedDuty 720 420 100 50 = 670 := by decide

/-- R106's first and third lines under N_PLUS_1. -/
theorem test_capacity :
    (let bay (w : Nat) : Supply := { present := true, ok := true, override := some w }
     let s (l : Vector Supply 4) : State := { live with budget := { live.budget with supplies := l, redundancy := .nPlusOne } }
     (s #v[bay 2000, bay 2000, bay 1500, {}]).capacity = 3500 ∧ (s #v[{}, bay 3000, {}, {}]).capacity = 0) := by decide

/-- 03 section 3.11.1: choices 1, 2 and 3. -/
theorem test_arbitration :
    (let rest : List Request := [⟨3, .poll, 0, .linkEngine⟩, ⟨14, .ident, 0, .inventoryStore⟩, ⟨7, .poll, 0, .linkEngine⟩]
     let cap : Request := ⟨7, .cap, 900, .budgetUnit⟩
     let pins : Request := ⟨0, .pins, 0, .uplinkAllocator⟩
     arbiterChoice (cap :: pins :: rest) 5 = some cap ∧ arbiterChoice (pins :: rest) 8 = some pins ∧
     (arbiterChoice rest 1).map (·.endpoint) = some 3) := by decide

/-- 06 section 6.12: the queue before and after the priority changes. -/
theorem test_queue_order :
    (let p : SlotId → Nat := fun n => if n = 10 then 1 else 2
     let q (n : SlotId) (a : Nat) : QueueEntry := ⟨n, .processor, a⟩
     (insertEntry p (q 10 2) [q 2 0, q 6 1]).map (·.slot) = [10, 2, 6] ∧
     (insertEntry p (q 3 3) [q 10 2, q 2 0, q 6 1]).map (·.slot) = [10, 2, 6, 3] ∧
     (insertEntry (fun n => if n = 6 then 1 else 2) (q 10 2) [q 6 1, q 2 0, q 3 3]).map (·.slot) = [6, 2, 10, 3]) := by
  decide

/-- 07 section 7.10.3: fan 2's windows of updates 2 and 5. -/
theorem test_fan_windows :
    ({ state := .ok, pulses := 44, lowWindows := 1 } : Fan).closeWindow 1500 false =
      { state := .failed, rpm := 1320, lowWindows := 2 } ∧
    ({ state := .failed, pulses := 72, goodWindows := 1 } : Fan).closeWindow 1500 false =
      { state := .ok, rpm := 2160, goodWindows := 2 } := by decide

/-- 08 section 8.10 at 20 s: a third of 10000 Mb/s is 3333. -/
theorem test_rate :
    (let port : Uplink := { group := 0, up := true, capacity := 10000 }
     let pin (w : Nat) : Pin := { preferred := some 1, weight := w, active := some 1, portSpeed := 25000 }
     let s : State := { live with uplinks := { live.uplinks with
       ports := live.uplinks.ports.set 1 port, pins := (live.uplinks.pins.set 0 (pin 10)).set 1 (pin 20) } }
     s.targetRate 0 = 3333 ∧ s.targetRate 1 = 6666) := by decide

/-! ## One step of each family -/

/-- R29, R23: SYNC completes with DONE and its tag. -/
theorem test_sync : field (exec .sync (queueing live (post 0x01 0 0 0))) (fun t => (t.window.completions[3], t.window.queue)) =
    some (⟨1, 0x11, 0⟩, []) := by decide

/-- R24: an authority of 4 fails check 4, and the detail names the target. -/
theorem test_authority : field (exec .setOffset (queueing live (post 0x33 0x0411 0 0))) (fun t => t.window.completions[3]) =
    some ⟨0x83, 0x11, 0x4011⟩ := by decide

/-- R97: the intervals are clamped to 5..200 ms and 1..600 s. -/
theorem test_slot_timing : field (exec .setSlotTiming (queueing live (post 0x14 0x0001 4 601)))
    (fun t => ((t.slot 0).debounce, (t.slot 0).stopTimeout)) = some (5, 600) := by decide

/-- R6: the second auto refresh with a valid mode seen makes the path READY. -/
theorem test_ready : field (exec (.autoRefresh {}) { live with path := { live.path with
    state := .primed, refreshCount := 1, modeSeen := true } }) (fun t => (t.path.state, t.path.refreshCount)) =
    some (.ready, 2) := by decide

/-- R1: every line of a slot is driven on in the next, and a precharge-all's open address lines are held for it. -/
theorem test_forwarding :
    (let lines : CommandLines := { strobes := ⟨true, false, true, false⟩, bank := 2, address := 0x1ABC }
     field (exec (.prechargeAll { bank := 3, upper := 1, lower := 5 }) { live with path := { live.path with
       arrived := { command := lines } } }) (fun t => (t.path.driven.command, t.path.arrived.command)) =
     some (lines, ⟨⟨false, false, true, false⟩, true, 3, 0xC05⟩)) := by decide

/-- R1, R12: in a slot with a word of an ended read and a word of a write, each word reaches its own burst and side. -/
theorem test_read_word_beside_a_write :
    (let read : Burst := { intakeBurst with direction := .read, window := .outside, elapsed := 3, next := 1, limit := some 2 }
     let s : State := { bursting intakeBurst with path := { (bursting intakeBurst).path with trailing := [read] } }
     field (exec (.burstWordTransfer ⟨.read, 0x2105⟩) s)
       (fun t => (t.path.trailing, t.path.burst == some intakeBurst, t.window.shadow)) = some ([], true, []) ∧
     field (exec (.burstWordTransfer ⟨.write, 0x2105⟩) s)
       (fun t => (t.path.trailing, t.path.burst.map (·.next), t.window.shadow)) =
       some ([read], some 1, [(8, 0x05), (9, 0x21)])) := by decide

/-- R1: a word of a read that no mode tracks goes toward the processor, in its slot, after a later write too. -/
theorem test_read_word_without_a_burst :
    (let s : State := { ready with path := { ready.path with mode := .none } }
     match exec (.read 1 4 false {}) s with
     | .next t => match exec (.write 1 4 false {}) t with
       | .next u => field (exec (.burstWordTransfer ⟨.read, 0x2105⟩) u) (fun v =>
           (v.path.arrived.command == u.path.arrived.command, v.path.arrived.readData, v.path.arrived.writeData,
             v.path.looseRead))
       | _ => none
     | _ => none) = some (true, ⟨some 0x05, some 0x21⟩, {}, .ending 3) := by decide

/-- R1: a write to an IDLE bank ends a read whose words still cross; its first word goes toward the SDRAM device in its own
slot, and the read's words are still to come. -/
theorem test_write_word_without_a_burst :
    (let s := bursting { intakeBurst with direction := .read, window := .outside, latency := 3 }
     match exec (.write 0 4 false {}) s with
     | .next t => field (exec (.burstWordTransfer ⟨.write, 0x2105⟩) t) (fun u =>
         (u.path.arrived.command == t.path.arrived.command, u.path.arrived.writeData, u.path.arrived.readData,
           u.path.trailing == t.path.trailing, u.path.trailing.length))
     | _ => none) = some (true, ⟨some 0x05, some 0x21⟩, {}, true, 1) := by decide

/-- R18: the post word of command slot 0 enters the post list and the shadow. -/
theorem test_post_word : field (exec (.burstWordTransfer ⟨.write, 0x2105⟩) (bursting
    { intakeBurst with length := .eight, limit := some 8, next := 3, elapsed := 3 }))
    (fun t => (t.window.postList, t.window.shadow)) = some ([0], [(14, 0x05), (15, 0x21)]) := by decide

/-- R71: a rise in EMPTY starts the debounce at 20 ms. -/
theorem test_presence : field (exec (.presenceLineChange 4 true) live)
    (fun t => ((t.slot 4).state, (t.slot 4).presenceTimer)) = some (.settling, some 20) := by decide

/-- R91: an overcurrent faults an ON blade; 09 section 9.7: POWER, then FAULT. -/
theorem test_overcurrent : field (exec (.overcurrentRise 0 true) (supplied (seat { state := .on }) 2000))
    (fun t => ((t.slot 0).state, (t.slot 0).fault, t.events.entries.map fun e => (e.source, e.kind, e.count))) =
    some (.faulted, some .overcurrent, [(1, .power, 1), (1, .fault, 1)]) := by decide +kernel

/-- R103: a supply that becomes OK reports it. -/
theorem test_supply : field (exec (.supplyDebounceExpiry 3 .ok) { live with budget := { live.budget with
      redundancy := .none
      supplies := live.budget.supplies.set 3 { present := true, rawOk := true, okTimer := some 10, override := some 300 } } })
    (fun t => ((t.supply 3).state, t.events.entries.map (·.source))) = some (.ok, [16]) := by decide

/-- R143, 07 section 7.10.4: a module pulled reports GRACE_STARTED and drives its fans at 1000. -/
theorem test_module : field (exec (.moduleDebounceExpiry 1) { live with thermal := { live.thermal with
      zones := live.thermal.zones.set 1 { module := true, moduleTimer := some 20, duty := 640, temperature := 50 } } })
    (fun t => ((t.zone 1).duty, (t.zone 1).graceTimer, t.events.entries.map (·.detail))) =
    some (1000, some 60000, [0x0000, 0x0004]) := by decide

/-- R155, R157: an uplink declared UP takes the capacity of speed code 1 and reports LINK_HELD, UP. -/
theorem test_uplink : field (exec (.upHoldOffExpiry 0) { live with uplinks := { live.uplinks with
      ports := live.uplinks.ports.set 0 { group := 0, link := true, speed := 1, upTimer := some 1000 } } })
    (fun t => ((t.port 0).up, (t.port 0).capacity, t.events.entries.map fun e => (e.source, e.detail))) =
    some (true, 10000, [(20, 0x0101)]) := by decide +kernel

/-- R39: the third failure makes the link LOST with LINK reported. -/
theorem test_lost : field (exec .transactionTimeout { live with link := { live.link with
      table := []
      records := live.link.records.set 0 { state := .up, failures := 2 }
      inFlight := some ⟨0, .ident, 0, [], .inventoryStore, 0, [], some 5, false⟩ } })
    (fun t => (t.linkState 0, t.events.entries.map fun e => (e.source, e.kind))) = some (.lost, [(0, .link)]) := by decide +kernel

/-- R27: a power request of a POLL sent in STANDBY and answered after POWER_ON is refused with STATE; one sent later is not
judged. -/
theorem test_request_after_power_on :
    [true, false].map (fun b => field (exec (.answerReceived 1 [0, 40, 0, 1, 0xD7]) { live with
      slots := live.slots.set 0 { state := .queued }
      link := { live.link with
        table := []
        records := live.link.records.set 1 { state := .up }
        inFlight := some ⟨1, .poll, 0, [], .linkEngine, 0, [], some 5, b⟩ } })
      (fun t => t.events.entries.map fun e => (e.kind, e.detail))) =
    [some [(.power, 0x8384)], some []] := by decide +kernel

/-- R36: bytes on the link of a request that is not yet sent are ignored. -/
theorem test_late_bytes : field (exec (.answerReceived 0 [1]) { live with link := { live.link with
      inFlight := some ⟨0, .poll, 0, [], .linkEngine, 0, [], none, false⟩ } })
    (fun t => (t.link.inFlight.isSome, (t.linkRecord 0).failures)) = some (true, 0) := by decide

/-! ## Witnesses: every obligation's hypotheses, clause by clause, met together -/

/-- The reset state with the end of the chassis reset in front. -/
def releasing : State := { State.reset with pending := [.chassisResetRelease] }

/-- A command on a target with an authority field is taken at the head of the intake queue. -/
abbrev taken (s : State) (code : Byte) (target field : Nat) (a1 a2 : Word) : Prop :=
  (queueing s (post code (BitVec.ofNat 8 field ++ BitVec.ofNat 8 target) a1 a2)).taking
      (post code (BitVec.ofNat 8 field ++ BitVec.ofNat 8 target) a1 a2) [] code.toNat ∧
    (post code (BitVec.ofNat 8 field ++ BitVec.ofNat 8 target) a1 a2).aims target field

/-- A transaction of a kind is in flight at an endpoint. -/
def flight (e : Endpoint) (k : TransactionKind) (argument : Nat) (timer : Timer) : Transaction :=
  ⟨e, k, argument, [], .linkEngine, 0, [], timer, false⟩

/-- A state with a transaction in flight. -/
def flying (s : State) (q : Transaction) : State := { s with link := { s.link with table := [], inFlight := some q } }

/-- The good answer to a POLL of a blade: 40 °C and its flags. -/
def polled (flags : Byte) : List Byte := [0, 40, 0, flags, 0 - (40 + flags)]

/-- The good answer to a CAP of 300 W. -/
def cappedAt300 : List Byte := [0, 0x2C, 0x01, 0xD3]

/-- A good answer to an IDENT: the identity page of a blade with class 300, 100 W and port abilities. -/
def identified : List Byte :=
  0 :: [1, 0, 0, 0, 0] ++ List.replicate 16 0 ++ [0, 0x2C, 0x01, 100, 0, 7] ++ List.replicate 36 0 ++ [103, 0]

/-- A good answer to a PAGE: 128 zero bytes. -/
def paged : List Byte := List.replicate 130 0

/-- A zone stands in a record. -/
def zoned (r : Zone) : State := { live with thermal := { live.thermal with zones := live.thermal.zones.set 0 r } }

/-- An uplink stands in a record. -/
def ported (r : Uplink) : State := { live with uplinks := { live.uplinks with ports := live.uplinks.ports.set 0 r } }

/-- A supply stands in a record. -/
def bayed (r : Supply) : State := { live with budget := { live.budget with supplies := live.budget.supplies.set 0 r } }

/-- Blade 1 is ON with a class and an allocation. -/
def running (c : PowerClass) (allocation : Nat) : State :=
  { seat { state := .on } with budget := { (seat { state := .on }).budget with
      records := live.budget.records.set 0 { priority := 2, allocation := allocation, fixedClass := c } } }

/-- An identity with a number of extended pages. -/
def identity (pages : Nat) : Identity := ⟨1, 0, 0, [], pages, 300, 100, 0⟩

/-- An endpoint's inventory record. -/
def recorded (s : State) (e : Endpoint) (q : InventoryRecord) : State :=
  { s with inventory := { s.inventory with records := s.inventory.records.set e q } }

theorem witness_StepTakesTheFrontCommand : ({ live with pending := [.sync] } : State).pending = [.sync] ∧ live.pending = [] := by
  decide

theorem witness_ChassisRowsKeepTheSettings : chassisRow (.tachPulse 0) = true ∧ ∃ t, exec (.tachPulse 0) live = .next t :=
  ⟨by decide, _, rfl⟩

theorem witness_PathRowsKeepTheChassis :
    pathRow (.noOperation {}) = true ∧ ∃ t, exec (.noOperation {}) live = .next t := ⟨by decide, _, rfl⟩

theorem witness_CommandRowsKeepThePath : Instr.sync ∈ commandRows ∧ ∃ t, exec .sync live = .next t :=
  ⟨by decide, _, rfl⟩

theorem witness_EventListKeepsItsForm : EventForm releasing ∧ ∃ t, step releasing = .next t := ⟨by decide, _, rfl⟩

theorem witness_PagePoolIsKept : PagePool releasing ∧ ∃ t, step releasing = .next t := ⟨by decide +kernel, _, rfl⟩

theorem witness_LinkTableKeepsItsForm : LinkForm releasing ∧ ∃ t, step releasing = .next t := ⟨by decide, _, rfl⟩

theorem witness_WindowKeepsItsForm : WindowForm releasing ∧ ∃ t, step releasing = .next t := ⟨by decide, _, rfl⟩

theorem witness_UplinksKeepTheirForm :
    AdmissionForm releasing ∧ UplinkForm releasing ∧ ∃ t, step releasing = .next t :=
  ⟨by decide +kernel, by decide +kernel, _, rfl⟩

theorem witness_AdmissionFollowsTheSlots : AdmissionForm releasing ∧ ∃ t, step releasing = .next t :=
  ⟨by decide +kernel, _, rfl⟩

theorem witness_ResetLineHolds : ResetHold releasing ∧ ∃ t, step releasing = .next t := ⟨by decide +kernel, _, rfl⟩

theorem witness_ZonesKeepTheirForm : ZoneForm releasing ∧ ∃ t, step releasing = .next t := ⟨by decide +kernel, _, rfl⟩

theorem witness_CapRecordsFollowTheSlots :
    (AdmissionForm releasing ∧ BudgetForm releasing ∧ AllocationForm releasing ∧ CapsInFlightAreDue releasing) ∧
    ∃ t, step releasing = .next t :=
  ⟨⟨by decide +kernel, by decide +kernel, by decide +kernel, by decide +kernel⟩, _, rfl⟩

/-- A blade in ON with a decrease to 300 W pending and the CAP of it in flight. -/
def capping : State :=
  let on := running ⟨700, 100⟩ 700
  let record : BudgetRecord := { on.budgetRecord 0 with capTarget := some 300, capTimer := some 2000 }
  let pending : State := { on with budget := { on.budget with records := on.budget.records.set 0 record } }
  { flying (linked pending 1 .up) (flight 1 .cap 300 (some 5)) with pending := [.answerReceived 1 cappedAt300] }

theorem witness_CapRecordsFollowTheSlots_capped :
    (AdmissionForm capping ∧ BudgetForm capping ∧ AllocationForm capping ∧ CapsInFlightAreDue capping) ∧
    ∃ t, step capping = .next t :=
  ⟨⟨by decide +kernel, by decide +kernel, by decide +kernel, by decide +kernel⟩, _, rfl⟩

theorem witness_EvaluationCoversTheDeficit :
    (let s := supplied (classed (seat { state := .queued }) ⟨300, 100⟩) 600
     AdmissionForm s ∧ BudgetForm s ∧ s.powered 0 = false ∧ s.evaluate.powered 0 = true) := by decide +kernel

theorem witness_EvaluationsComeToAnEnd :
    AdmissionForm (seat { state := .on }) ∧ EvaluationQuiet releasing ∧ ∃ t, step releasing = .next t :=
  ⟨by decide +kernel, by decide, _, rfl⟩

theorem witness_SlotsAreForwarded :
    sdramSlot (.noOperation {}) = some (⟨⟨false, true, true, true⟩, true, 0, 0⟩, {}) ∧ State.reset.pathHeld = true ∧
    ({ intakeBurst with window := .status } : Burst).silences ∧ ¬intakeBurst.silences := by decide

theorem witness_BanksOpenAndClose : live.idlePath ∧ ready.idlePath := by decide

theorem witness_ReadinessFollowsTheModes : live.idlePath ∧ live.window.postList = [] := by decide

theorem witness_ModeFieldsAreReadBack :
    ¬(BurstLength.eight = .fullRow ∧ BurstType.interleaved = .interleaved) ∧
    ¬(BurstLength.fullRow = .fullRow ∧ BurstType.sequential = .interleaved) := by decide

theorem witness_SelfRefreshSleepsAndWakes :
    (let asleep : State := { live with path := { live.path with state := .sleep } }
     (ready.idlePath ∧ ready.path.state = .ready ∧ ready.window.postList = []) ∧
     (asleep.path.state = .sleep ∧ (sdramSlot (.noOperation {})).isSome = true ∧ exitRow (.noOperation {}) = false) ∧
     asleep.pathHeld = false ∧ asleep.path.burst = none ∧ asleep.path.trailing = []) := by decide

theorem witness_AccessStartsABurst :
    (let modeless : State := { ready with path := { ready.path with mode := .none } }
     let closing := bursting { intakeBurst with autoPrecharge := true }
     (ready.atMostOneBurst ∧ ready.burstGone.path.banks[(0 : BankId)] = .idle) ∧
     (closing.atMostOneBurst ∧ closing.burstGone.path.banks[(1 : BankId)] = .idle) ∧
     (ready.path.mode.isValid = true ∧ modeless.burstGone.path.banks[(0 : BankId)] = .idle) ∧
     (modeless.atMostOneBurst ∧ modeless.path.banks[(1 : BankId)] = .active 5 ∧ modeless.path.mode.isValid = false) ∧
     (bursting intakeBurst).atMostOneBurst ∧ ready.path.banks[(1 : BankId)] = .active 5 ∧ ready.path.mode = .valid ⟨.four, .sequential, .two, false⟩) := by
  decide

theorem witness_BurstsEndAndRunOn :
    (let last : Burst := { intakeBurst with elapsed := 3, next := 3 }
     (bursting intakeBurst).oneBurst intakeBurst ∧ (0 : BankId) ≠ intakeBurst.bank ∧
     (bursting intakeBurst).path.state = .ready ∧ (decodeMode 0 0x033).isValid = true ∧
     (decodeMode 0 0x034).isValid = false ∧ (bursting last).decodes ∧ (bursting last).path.burst = some last ∧
     (bursting last).path.trailing = [] ∧ last.advance.remaining = false) := by decide

theorem witness_ColumnsFollowTheMode :
    BurstLength.fullRow.words = none ∧ BurstLength.eight.words = some 8 ∧ 7 < 8 ∧ 0 ≠ 7 := by decide

theorem witness_WordsCrossTheWindow :
    (let s := bursting intakeBurst
     let served : Burst := { intakeBurst with direction := .read, window := .status, elapsed := 2 }
     let last : Burst := { intakeBurst with elapsed := 3, next := 3 }
     s.decodes ∧ s.path.burst = some intakeBurst ∧ s.path.trailing = [] ∧ intakeBurst.remaining = true ∧
     intakeBurst.wait = 0 ∧ (intakeBurst.pass (s.path.masks.for .write)).remaining = true ∧
     State.reset.pathHeld = true ∧ live.decodes ∧ live.path.looseRead ≠ .over ∧
     (live.path.burst = none ∧ live.path.trailing = [] ∧ live.path.looseWrite = none) ∧
     last.remaining = true ∧ last.wait = 0 ∧ (last.pass (s.path.masks.for .write)).remaining = false ∧
     served.remaining = true ∧ served.wait = 0 ∧ (served.pass (s.path.masks.for .read)).remaining = true) := by decide

/-- The clauses about a write without a burst: its word due, beside a read's word that is not, and a second word. -/
theorem witness_WordsCrossTheWindow_loose :
    (let read : Burst := { intakeBurst with direction := .read, window := .outside, latency := 3, limit := some 1 }
     let s (w : LooseWrite) : State := { live with path := { live.path with looseWrite := some w } }
     let beside : State := { s ⟨0, some 4, false⟩ with path := { (s ⟨0, some 4, false⟩).path with trailing := [read] } }
     let due : Burst := { read with elapsed := 3 }
     let trailing (d : Burst) : State := { bursting intakeBurst with path := { (bursting intakeBurst).path with trailing := [d] } }
     ((trailing read).decodes ∧ read.direction ≠ intakeBurst.direction ∧ due.remaining = true ∧ due.wait = 0) ∧
     (beside.decodes ∧ beside.path.burst = none ∧ beside.path.looseWrite = some ⟨0, some 4, false⟩ ∧
       read.remaining = true ∧ read.wait ≠ 0) ∧
     (s ⟨0, some 1, false⟩).decodes ∧ (s ⟨0, some 4, true⟩).path.trailing = [] ∧ (s ⟨0, some 4, true⟩).decodes) := by decide

theorem witness_PostsTakeEffect :
    Memory.read live.window.shadow 15 = 0 ∧ Memory.read [(15, 0x21)] 15 ≠ 0 ∧
    (∃ r ∈ (queueing live (post 1 0 0 0)).window.queue, r.slot = 3) ∧
    ∀ r ∈ (queueing live (post 1 0 0 0)).window.queue, r.slot ≠ 0 := by decide

theorem witness_TheHeadCompletes :
    Instr.sync ∈ commandRows ∧ live.window.queue = [] ∧ commandOfCode 0x10 ≠ .sync ∧ commandOfCode 0x01 = .sync ∧
    Instr.unknownCommand ∈ commandRows ∧ commandOfCode 0xFF = .unknownCommand ∧ EvaluationQuiet live := by decide

theorem witness_ChecksAreTakenInOrder :
    (let guard : ListedCommand := ⟨0x10, .slot, true, .guard⟩
     let level : ListedCommand := ⟨0x12, .slot, false, .zero⟩
     guard ∈ commandList ∧ level ∈ commandList ∧ guard.target.inRange 0 = false ∧ guard.target.inRange 13 = false ∧
     guard.target.inRange 12 = true ∧ live.targetPresent .slot 12 = false ∧
     (seat { state := .standby }).targetPresent .slot 1 = true ∧
     (seat { state := .standby, guardLevel := 1 }).authorityPasses .guard 1 2 = false ∧
     live.authorityPasses .zero 1 1 = false ∧ ∀ k ∈ commandList, k.code ≠ 0x02) := by decide

theorem witness_SlotSettingsAreSet :
    taken live 0x12 12 0 3 0 ∧ taken live 0x14 1 3 4 601 ∧ taken live 0x15 1 0 1 1 := by decide

theorem witness_PowerOnQueuesTheSlot :
    (let s := classed (seat { state := .standby }) ⟨700, 100⟩
     let poll := flight 1 .poll 0 (some 5)
     let ident := flight 1 .ident 0 (some 5)
     let up := flying (linked s 1 .up) poll
     let early : Transaction := { poll with fromStandby := true }
     let moved := flying (linked (seat { state := .queued }) 1 .up) early
     let aux := flying (linked (seat { state := .auxOn }) 1 .contact) ident
     taken s 0x10 1 3 0 0 ∧ 3 ≤ (s.slot 0).guardLevel ∧ (s.slot 0).state.seated = true ∧
     ¬((seat { state := .on }).slot 0).state = .standby ∧ (s.budgetRecord 0).override ≠ none ∧
     s.candidateClass 0 = some ⟨700, 100⟩ ∧ (live.slot 0).state.seated = false ∧
     ((seat { state := .on, guardLevel := 1 }).slot 0).guardLevel < 2 ∧
     ((supplied s 999).capacity : Int) - (supplied s 999).budget.baseLoad - (supplied s 999).fanTotal < 700 ∧
     (700 : Int) ≤ (supplied s 1000).capacity - (supplied s 1000).budget.baseLoad - (supplied s 1000).fanTotal ∧
     (up.judging 1 poll ∧ poll.succeeds (polled 1) ∧ up.linkState 1 = .up ∧ (up.slot 0).state = .standby ∧
       ((answerData (polled 1)).getD 2 0).getLsbD 0 = true) ∧
     (moved.judging 1 early ∧ early.succeeds (polled 1) ∧ moved.linkState 1 = .up ∧ (moved.slot 0).state = .queued) ∧
     aux.judging 1 ident ∧ ident.succeeds identified ∧ aux.linkState 1 ≠ .absent ∧ (aux.slot 0).state = .auxOn) := by
  decide +kernel

theorem witness_PowerOffFollowsTheState :
    (∀ st ∈ [SlotState.auxOn, .standby, .faulted, .queued, .ramping, .on, .stopping],
      taken (seat { state := st }) 0x11 1 3 0 0 ∧ taken (seat { state := st }) 0x11 1 3 1 0 ∧
      taken (seat { state := st }) 0x11 1 3 2 0 ∧ ((seat { state := st }).slot 0).state = st ∧
      3 ≤ ((seat { state := st }).slot 0).guardLevel ∧ ((seat { state := st }).slot 0).state.seated = true) ∧
    (∀ st ∈ [SlotState.ramping, .on, .stopping], (0 : SlotId) ∈ (seat { state := st }).budget.admitted) ∧
    (let poll := flight 1 .poll 0 (some 5)
     let s := flying (linked (seat { state := .stopping }) 1 .up) poll
     s.judging 1 poll ∧ poll.succeeds (polled 2) ∧ s.linkState 1 = .up ∧ (s.slot 0).state = .stopping ∧
     ((answerData (polled 2)).getD 2 0).getLsbD 1 = true ∧ poll.succeeds (polled 0)) := by decide +kernel

theorem witness_ClearFaultLeavesFaulted :
    (let s := seat { state := .faulted, fault := some .ramp }
     taken s 0x13 1 0 0 0 ∧ (s.slot 0).state.seated = true ∧ (s.slot 0).state = .faulted ∧
     (linked s 1 .up).linkState (bladeEndpoint 0) = .up ∧ (linked s 1 .lost).linkState (bladeEndpoint 0) ≠ .up ∧
     ((seat { state := .on }).slot 0).state ≠ .faulted) := by decide +kernel

theorem witness_BudgetSettingsAreSet :
    taken live 0x20 0 0 2 0 ∧ taken live 0x20 0 0 3 0 ∧ taken live 0x21 0 0 4001 0 ∧ taken live 0x24 4 0 199 0 := by decide

theorem witness_QueuedEntriesMoveAndLeave :
    (let s := seat { state := .queued }
     taken s 0x22 1 0 3 0 ∧ taken s 0x22 1 0 4 0 ∧ taken s 0x25 1 3 0 0 ∧ (s.slot 0).state.seated = true) := by
  decide +kernel

theorem witness_OverrideClassIsJudged :
    (taken (seat { state := .standby }) 0x23 1 0 0 0 ∧ (seat { state := .standby }).powered 0 = false) ∧
    (taken (running ⟨700, 100⟩ 700) 0x23 1 0 600 50 ∧ (running ⟨700, 100⟩ 700).powered 0 = true ∧
      ((running ⟨700, 100⟩ 700).slot 0).state = .on ∧ (running ⟨700, 100⟩ 700).suppliedClass 0 = none ∧
      (running ⟨700, 100⟩ 700).budget.records[(0 : SlotId)].allocation = 700 ∧
      (linked (running ⟨700, 100⟩ 700) 1 .up).linkState (bladeEndpoint 0) = .up) ∧
    ((seat { state := .ramping }).slot 0).state = .ramping := by decide +kernel

theorem witness_LoadCurveAdoptsThePoints :
    taken live 0x30 1 0 0 0 ∧
    (∀ k, k < 0 → (queueing live (post 0x30 1 0 0)).shadowWord (256 + 2 * k) ≠ 0x7FFF) ∧
    ({ live with window := { shadow := [(512, 0xFF), (513, 0x7F)] } } : State).shadowWord 256 = 0x7FFF ∧
    (∀ k, k < 6 → live.shadowWord (256 + 2 * k) ≠ 0x7FFF) := by decide +kernel

theorem witness_ZoneSettingsAreSet :
    taken live 0x32 1 0 1 1001 ∧ taken live 0x32 1 0 2 0 ∧ taken live 0x31 3 0 250 90 := by decide

theorem witness_SingleRecordsAreSet :
    taken live 0x01 255 3 0 0 ∧ taken live 0x33 12 0 21 0 ∧ taken live 0x33 17 0 21 0 ∧ taken live 0x42 0 0 601 0 ∧
    taken live 0x52 19 0 7 0 ∧ taken live 0x52 0 0 8 0 ∧ taken live 0x61 0 0 0xFFFF 0 := by decide

theorem witness_UplinkSettingsAreSet :
    taken live 0x40 4 0 3 0 ∧ taken live 0x40 1 0 4 0 ∧ taken live 0x41 12 0 4 101 ∧ taken live 0x41 1 0 5 0 := by decide

theorem witness_RecordsAreReadAndDropped :
    (let s := linked (recorded live 1 { state := .valid, fields := some (identity 7) }) 1 .up
     let few : State := { s with inventory := { s.inventory with free := [1, 2, 3, 4, 5, 6] } }
     taken s 0x50 1 0 0 0 ∧ s.linkState 1 ≠ .absent ∧ s.linkState 1 ≠ .lost ∧
     (s.inventory.records[(1 : Endpoint)]).fields = some (identity 7) ∧ (s.inventory.records[(1 : Endpoint)]).pages = [] ∧
     7 ≤ s.inventory.free.length ∧ few.inventory.free.length < 7 ∧ taken s 0x51 1 0 0 0 ∧ taken s 0x53 1 0 0 0 ∧
     (s.inventory.records[(1 : Endpoint)]).fetch = none ∧ (s.slot 0).state = .empty) := by decide +kernel

/-- The clauses about answers; the last page of one and the first of two are awaited, with the mark clear and set. -/
theorem witness_RecordsAreReadAndDropped_answers :
    (let ident := flight 1 .ident 0 (some 5)
     let page := flight 1 .page 1 (some 5)
     let reading := flying (linked (recorded live 1 { state := .reading }) 1 .up) ident
     let fetching (p : Page) (rest : List Page) :=
       flying (linked (recorded live 1 { state := .valid, fields := some (identity 2), pages := p :: rest, fetch := some 1 })
         1 .up) page
     let third (s : State) : State := { s with link := { s.link with
       records := s.link.records.set 1 { state := .up, failures := 2 } } }
     (reading.judging 1 ident ∧ ident.succeeds identified ∧ reading.linkState 1 = .up ∧ reading.spares 1 ∧
       (answerData identified).length = 64 ∧ ¬ident.succeeds [1] ∧
       judgePage (deviceOf 1) (answerData identified) = .accepted ⟨1, 0, 0, [], 0, 300, 100, 7⟩ ∧
       judgePage (deviceOf 2) ((answerData identified).set 63 1) = .check ∧
       judgePage (deviceOf 0) (answerData identified) = .kind ∧
       judgePage (deviceOf 1) (((answerData identified).set 26 8).set 63 102) = .field) ∧
     (∀ mark ∈ [false, true], ∀ rest ∈ [[], [({ frame := 1 } : Page)]],
       (fetching { frame := 0, repeatMark := mark } rest).judging 1 page ∧
       (fetching { frame := 0, repeatMark := mark } rest).spares 1 ∧
       ¬(third (fetching { frame := 0, repeatMark := mark } rest)).spares 1 ∧
       ((fetching { frame := 0, repeatMark := mark } rest).inventory.records[(1 : Endpoint)]).fetch = some page.argument) ∧
     page.succeeds paged ∧ byteSum (answerData paged) = 0) := by decide +kernel

theorem witness_EventsCountUpAndDown :
    (let e : EventEntry := ⟨26, .collision, 255, 1⟩
     let s : State := { live with events := { entries := [⟨1, .power, 1, 0⟩, e] } }
     s.events.entries = [⟨1, .power, 1, 0⟩] ++ e :: [] ∧ e.source = 26 ∧ e.kind = .collision ∧
     (∀ d ∈ [(⟨1, .power, 1, 0⟩ : EventEntry)], ¬(d.source = 26 ∧ d.kind = .collision)) ∧
     (∀ d ∈ s.events.entries, ¬(d.source = 0 ∧ d.kind = .link)) ∧ taken s 0x60 26 0 12 255 ∧ taken s 0x60 26 0 13 1) := by
  decide +kernel

theorem witness_ChassisReleaseStartsTheTimers : live.chassisReset = false ∧ State.reset.chassisReset = true := by decide

theorem witness_LinkTimersRun :
    (let s : State := { live with link := { live.link with
      records := live.link.records.set 3 { state := .lost, reconnectTimer := some 2000, pollTimer := some 250 } } }
     (live.linkRecord 3).reconnectTimer = none ∧ (live.linkRecord 3).pollTimer = none ∧
     (s.linkRecord 3).reconnectTimer ≠ none ∧ (s.linkRecord 3).pollTimer ≠ none) := by decide

theorem witness_AnswersAreJudged :
    (let q := flight 1 .poll 0 (some 5)
     let s := flying (linked live 1 .up) q
     let pins := flight 0 .pins 0 (some 5)
     let sw (state : LinkState) (failures : Nat) : State := { flying live pins with link := { (flying live pins).link with
       records := live.link.records.set 0 { state := state, failures := failures } } }
     (live.link.inFlight = none ∧ q.endpoint ≠ 2 ∧ q.timer ≠ none ∧ (flight 1 .poll 0 none).timer = none ∧
       (live.linkRecord 1).presenceCount ≠ 1) ∧
     (s.judging 1 q ∧ q.succeeds (polled 0) ∧ (s.linkRecord 1).state ≠ .lost ∧ s.spares 1) ∧
     (∀ state ∈ [LinkState.contact, .up, .lost], (sw state 0).judging 0 pins ∧ (sw state 0).spares 0 ∧
       ¬(sw state 2).spares 0 ∧ (sw state 2).judging 0 pins) ∧
     pins.succeeds [0, 12, 244] ∧ ¬pins.succeeds [1] ∧ (flight 0 .poll 0 (some 5)).succeeds [0, 1, 255]) := by
  decide +kernel

theorem witness_AnswersAreJudged_cap :
    (let cap := flight 1 .cap 300 (some 5)
     let on := running ⟨700, 100⟩ 700
     let b : BudgetRecord :=
       { priority := 2, allocation := 700, fixedClass := ⟨700, 100⟩, capTarget := some 300, capTimer := some 2000 }
     let s := flying (linked { on with budget := { on.budget with records := on.budget.records.set 0 b } } 1 .up) cap
     s.judging 1 cap ∧ cap.succeeds cappedAt300 ∧ s.powered 0 = true ∧ (s.budgetRecord 0).capTarget = some cap.argument ∧
     cap.argument < (s.budgetRecord 0).allocation ∧ (wordAt (answerData cappedAt300) 0).toNat = cap.argument) := by
  decide +kernel

theorem witness_ArbiterChoosesInOrder :
    (let cap : Request := ⟨7, .cap, 900, .budgetUnit⟩
     let poll : Request := ⟨7, .poll, 0, .linkEngine⟩
     arbiterChoice [poll, cap] 8 = some cap ∧ poll ∈ [poll, cap] ∧ poll.kind.urgent = false) := by decide

theorem witness_PresenceIsDebounced :
    EvaluationQuiet live ∧ (live.slot 0).rawPresence = false ∧ (live.slot 0).state = .empty ∧
    ((seat { state := .settling, presenceTimer := some 20 }).slot 0).presenceTimer ≠ none ∧
    ((seat { state := .settling, presenceTimer := some 20, rawPresence := true }).slot 0).rawPresence = true ∧
    ((seat { state := .auxOn, identificationTimer := some 2000 }).slot 0).identificationTimer ≠ none ∧
    (linked (seat { state := .auxOn }) 1 .up).linkState (bladeEndpoint 0) = .up ∧
    live.linkState (bladeEndpoint 0) ≠ .up := by decide +kernel

theorem witness_RemovalReachesEveryBlock :
    (let s := seat { state := .on, rawPresence := true }
     EvaluationQuiet s ∧ s.chassisReset = false ∧ (s.slot 0).state.seated = true ∧ (s.slot 0).rawPresence = true ∧
     (0 : SlotId) ∈ s.budget.admitted ∧ (live.slot 0).rawPresence = false ∧ (live.slot 0).state.seated = false) := by
  decide +kernel

theorem witness_PowerFollowsItsLines :
    (∀ st ∈ [SlotState.ramping, .on, .stopping],
      (0 : SlotId) ∈ (seat { state := st, rampTimer := some 200, stopTimer := some 1000 }).budget.admitted ∧
      ((seat { state := st, rampTimer := some 200, stopTimer := some 1000 }).slot 0).state = st ∧
      ((seat { state := st, rampTimer := some 200, stopTimer := some 1000 }).slot 0).rampTimer ≠ none ∧
      ((seat { state := st, rampTimer := some 200, stopTimer := some 1000 }).slot 0).stopTimer ≠ none) ∧
    (live.slot 0).state.powered = false ∧ (live.slot 0).powerGood = false := by decide +kernel

theorem witness_ButtonsAreDebounced :
    (let press : SlotRecord := { state := .standby, rawButton := true, buttonTimer := some 20 }
     let s := seat { press with buttonAction := .powerToggle }
     EvaluationQuiet s ∧ (s.slot 0).state.seated = true ∧ (s.slot 0).buttonTimer ≠ none ∧
     (s.slot 0).rawButton ≠ (s.slot 0).button ∧ ButtonEdge.press = (s.slot 0).buttonEdge ∧
     ((seat press).slot 0).buttonAction = .report ∧ 2 ≤ (s.slot 0).guardLevel ∧
     (supplied (classed s ⟨700, 100⟩) 1000).powerChecks 0 = none ∧ s.powerChecks 0 = some (.refused 5 0x84) ∧
     (supplied (classed s ⟨700, 100⟩) 999).powerChecks 0 = some (.refused 7 0x88) ∧ (live.slot 0).state.seated = false) := by
  decide +kernel

theorem witness_SuppliesAndCapsFollowTheirTimers :
    (let timed := bayed { rawPresent := true, rawOk := true, present := true, presentTimer := some 10, okTimer := some 10 }
     let capped : BudgetRecord :=
       { priority := 2, allocation := 700, fixedClass := ⟨700, 100⟩, capTarget := some 300, capTimer := some 2000 }
     let on := seat { state := .on }
     let pending : State := { on with budget := { on.budget with records := live.budget.records.set 0 capped } }
     (live.supply 0).presentTimer = none ∧ (live.supply 0).okTimer = none ∧ (timed.supply 0).presentTimer ≠ none ∧
     (timed.supply 0).present = (timed.supply 0).rawPresent ∧ (timed.supply 0).ok ≠ (timed.supply 0).rawOk ∧
     (timed.supply 0).present = true ∧ (live.budgetRecord 0).capTimer = none ∧ (pending.budgetRecord 0).capTimer ≠ none ∧
     pending.powered 0 = true ∧ (pending.budgetRecord 0).capTarget ≠ none) := by decide +kernel

/-- The clauses about CAP answers: of the target's watts, above it, below it and not below the allocation. -/
theorem witness_SuppliesAndCapsFollowTheirTimers_answers :
    (let q (sent : Nat) := flight 1 .cap sent (some 5)
     let on := running ⟨700, 100⟩ 700
     let capped (target : Nat) : BudgetRecord :=
       { priority := 2, allocation := 700, fixedClass := ⟨700, 100⟩, capTarget := some target, capTimer := some 2000 }
     let s (target sent : Nat) : State :=
       flying (linked { on with budget := { on.budget with records := on.budget.records.set 0 (capped target) } } 1 .up) (q sent)
     (∀ target ∈ [200, 300, 400], (s target 300).judging 1 (q 300) ∧ (s target 300).linkState (bladeEndpoint 0) = .up ∧
       (s target 300).powered 0 = true ∧ (s target 300).spares 1 ∧
       ((s target 300).budget.records[(0 : SlotId)]).capTarget = some target ∧
       300 < ((s target 300).budget.records[(0 : SlotId)]).allocation) ∧
     (linked (s 300 300) 1 .contact).judging 1 (q 300) ∧
     (linked (s 300 300) 1 .contact).linkState (bladeEndpoint 0) = .contact ∧ ((s 300 300).slot 0).state ≠ .auxOn ∧
     ((s 300 700).budget.records[(0 : SlotId)]).allocation ≤ (q 700).argument ∧
     (q 300).succeeds cappedAt300 ∧ (wordAt (answerData cappedAt300) 0).toNat = 300 ∧ (q 301).succeeds cappedAt300 ∧
     ¬(q 300).succeeds [1] ∧ live.powered 0 = false ∧
     ((running ⟨700, 100⟩ 700).budget.records[(0 : SlotId)]).capTarget = none) := by decide +kernel

theorem witness_DutyFollowsTheCurve :
    (let rising (curve : List CurvePoint) : Prop := curve.Pairwise fun a b => a.temperature < b.temperature ∧ a.duty ≤ b.duty
     rising [⟨40, 300⟩, ⟨60, 400⟩, ⟨72, 650⟩, ⟨90, 1000⟩] ∧ (40 : Int) ≤ 40 ∧ (90 : Int) ≤ 90 ∧ (60 : Int) ≤ 65 ∧
     (65 : Int) < 72) := by decide

theorem witness_ZoneUpdateTakesItsSteps :
    (live.zone 0).updateTimer = none ∧ ((zoned { updateTimer := some 1000 }).zone 0).updateTimer ≠ none ∧
    (0 : SlotId) ∈ (seat { state := .on }).budget.admitted := by decide +kernel

theorem witness_ModulesComeAndGo :
    (let fitted := zoned { rawModule := true, moduleTimer := some 20 }
     let pulled := zoned { module := true, moduleTimer := some 20 }
     (live.zone 0).moduleTimer = none ∧ (live.zone 0).graceTimer = none ∧ (fitted.zone 0).moduleTimer ≠ none ∧
     (fitted.zone 0).module = false ∧ (pulled.zone 0).rawModule = false ∧ (pulled.zone 0).module = true ∧
     ((zoned { moduleTimer := some 20 }).zone 0).rawModule = false ∧
     ((zoned { graceTimer := some 60000 }).zone 0).graceTimer ≠ none) := by decide

theorem witness_ReworkSharesTheUplinks :
    (let s := ported { group := 0, up := true, capacity := 10000 }
     (s.rework.uplinks.pins[(0 : SlotId)]).active = none ∧ s.linkState 0 ≠ .absent ∧ s.linkState 0 ≠ .lost) := by
  decide +kernel

theorem witness_UplinksFollowTheirLines :
    (let rising : Uplink := { group := 0, link := true, upTimer := some 1000 }
     let falling : Uplink := { group := 0, up := true, downTimer := some 300 }
     live.chassisReset = false ∧ ((ported rising).port 0).up = false ∧ ((ported rising).port 0).upTimer ≠ none ∧
     ((ported falling).port 0).up = true ∧ ((ported falling).port 0).downTimer ≠ none ∧
     ((ported falling).port 0).fault = false ∧ ((ported falling).port 0).speed ≠ 3 ∧ (live.pin 0).failbackTimer = none) := by
  decide

theorem witness_CapacityFollowsTheMode :
    (let one := supplied live 2000
     let two : State := { one with budget := { one.budget with
       redundancy := .nPlusOne
       supplies := one.budget.supplies.set 1 { present := true, ok := true, override := some 1800 } } }
     one.budget.redundancy = .none ∧ two.budget.redundancy = .nPlusOne ∧ (two.supply 0).ok = true ∧
     (two.supply 0).present = true ∧ (two.supply 1).ok = true ∧ (two.supply 1).present = true ∧
     two.effectiveRating 1 ≤ two.effectiveRating 0 ∧ (one.supply 1).ok = false) := by decide

theorem witness_ServedRowsShowTheRecords :
    (live.evaluate).budget.figuresShown = true ∧
    ({ live with events := { entries := [⟨25, .path, 1, 1⟩] } } : State).events.entries[0]? = some ⟨25, .path, 1, 1⟩ := by
  decide +kernel

end Sys2Proof.Tests
end

section
/-! The posts of the management window (O28): what a post latches from the shadow, when a command slot is PENDING, and
the three effects a post can have. -/

namespace Sys2Proof.Machine

/-! ## The bytes of a word -/

@[simp] theorem highByte_wordOf (high low : Byte) : highByte (wordOf high low) = high :=
  BitVec.extractLsb'_append_eq_left

@[simp] theorem lowByte_wordOf (high low : Byte) : lowByte (wordOf high low) = low :=
  BitVec.extractLsb'_append_eq_right

/-! ## The record a post latches (R19) -/

/-- R18, R19: the post word is column 7 of the slot's eight, its high lane at byte 15 of the slot's sixteen. -/
theorem State.shadowWord_postColumn (s : State) (c : CommandSlot) :
    s.shadowWord (8 * c.val + 7) =
      wordOf (Memory.read s.window.shadow (16 * c.val + 15)) (Memory.read s.window.shadow (16 * c.val + 14)) := by
  have high : 2 * (8 * c.val + 7) + 1 = 16 * c.val + 15 := by omega
  have low : 2 * (8 * c.val + 7) = 16 * c.val + 14 := by omega
  rw [State.shadowWord, high, low]

theorem State.recordAt_code (s : State) (c : CommandSlot) :
    (s.recordAt c).code = Memory.read s.window.shadow (16 * c.val + 15) := by
  simp only [State.recordAt, State.shadowWord_postColumn, highByte_wordOf]

theorem State.recordAt_tag (s : State) (c : CommandSlot) :
    (s.recordAt c).tag = Memory.read s.window.shadow (16 * c.val + 14) := by
  simp only [State.recordAt, State.shadowWord_postColumn, lowByte_wordOf]

/-- R19: code and tag are the lanes of the post word, the arguments the seven columns before it. -/
theorem State.recordAt_eq (s : State) (c : CommandSlot) :
    s.recordAt c =
      { slot := c
        code := Memory.read s.window.shadow (16 * c.val + 15), tag := Memory.read s.window.shadow (16 * c.val + 14)
        a0 := s.shadowWord (8 * c.val + 0), a1 := s.shadowWord (8 * c.val + 1), a2 := s.shadowWord (8 * c.val + 2)
        a3 := s.shadowWord (8 * c.val + 3), a4 := s.shadowWord (8 * c.val + 4), a5 := s.shadowWord (8 * c.val + 5)
        a6 := s.shadowWord (8 * c.val + 6) } := by
  rw [← s.recordAt_code c, ← s.recordAt_tag c]
  rfl

/-! ## PENDING slots (R22) -/

/-- R22: a command slot is PENDING when the queue holds a command of it. -/
theorem Window.isPending_iff (w : Window) (c : CommandSlot) : w.isPending c = true ↔ ∃ r ∈ w.queue, r.slot = c := by
  simp only [Window.isPending, List.any_eq_true, decide_eq_true_eq]

/-- R22: a command slot is FREE when no command of the queue is its own. -/
theorem Window.isPending_eq_false_iff (w : Window) (c : CommandSlot) :
    w.isPending c = false ↔ ∀ r ∈ w.queue, r.slot ≠ c := by
  simp only [Window.isPending, List.any_eq_false, decide_eq_true_eq, ne_eq]

/-! ## The three effects of a post (R19, R21) -/

/-- R19: a post with code 0 does nothing. -/
theorem State.post_of_code_zero {s : State} {c : CommandSlot} (hcode : (s.recordAt c).code = 0) : s.post c = s :=
  if_pos hcode

/-- R21: a post to a PENDING slot collides. -/
theorem State.post_of_pending {s : State} {c : CommandSlot} (hcode : (s.recordAt c).code ≠ 0)
    (hpending : s.window.isPending c = true) : s.post c = s.collide c := by
  simp only [State.post, if_neg hcode, if_pos hpending]

/-- R19: a post of a FREE slot is queued. -/
theorem State.post_of_free {s : State} {c : CommandSlot} (hcode : (s.recordAt c).code ≠ 0)
    (hfree : s.window.isPending c = false) : s.post c = s.queuePost (s.recordAt c) := by
  simp only [State.post, if_neg hcode, hfree, Bool.false_eq_true, if_false]

/-- Settles O28: the code read from the shadow and the PENDING test choose one of the three effects of a post. -/
theorem postsTakeEffect : Obligations.PostsTakeEffect := by
  intro s c column code tag
  have hcode : (s.recordAt c).code = code := s.recordAt_code c
  refine ⟨fun hzero => ?ignored, fun hposted hqueued => ?collides, fun hposted hunqueued => ?queued⟩
  case ignored => exact State.post_of_code_zero (hcode.trans hzero)
  case collides =>
    have hpending := (s.window.isPending_iff c).mpr hqueued
    exact State.post_of_pending (hcode.trans_ne hposted) hpending
  case queued =>
    have hfree := (s.window.isPending_eq_false_iff c).mpr hunqueued
    rw [State.post_of_free (hcode.trans_ne hposted) hfree, State.recordAt_eq]
    rfl

end Sys2Proof.Machine
end

section
/-! The capacity (O59): what the inventory supplies of a rating, the ratings of the OK supplies as a sum, their number
and their largest, and the capacity of each redundancy mode. -/

namespace Sys2Proof.Machine

/-! ## The effective rating (R66, R104) -/

/-- R66: fields are supplied in VALID and READING only. -/
theorem State.suppliedFields_eq_ite (s : State) (e : Endpoint) :
    s.suppliedFields e =
      if (s.inventoryRecord e).state = .valid ∨ (s.inventoryRecord e).state = .reading then (s.inventoryRecord e).fields
      else none := by
  cases hstate : (s.inventoryRecord e).state <;> simp [State.suppliedFields, hstate]

theorem State.effectiveRating_of_override {s : State} {i : BayId} {w : Nat} (hset : (s.supply i).override = some w) :
    s.effectiveRating i = w := by
  simp only [State.effectiveRating, hset]

theorem State.effectiveRating_of_no_override {s : State} {i : BayId} (hunset : (s.supply i).override = none) :
    s.effectiveRating i = (s.suppliedRating i).getD 0 := by
  simp only [State.effectiveRating, hunset]

/-- R104: without an override and without kept fields the rating is 0. -/
theorem State.effectiveRating_of_no_fields {s : State} {i : BayId} (hunset : (s.supply i).override = none)
    (hfields : (s.inventoryRecord (supplyEndpoint i)).fields = none) : s.effectiveRating i = 0 := by
  simp [State.effectiveRating_of_no_override hunset, State.suppliedRating, State.suppliedFields_eq_ite, hfields]

/-- R104: without an override the record's rating counts while it supplies fields. -/
theorem State.effectiveRating_of_fields {s : State} {i : BayId} {q : Identity} (hunset : (s.supply i).override = none)
    (hfields : (s.inventoryRecord (supplyEndpoint i)).fields = some q) :
    s.effectiveRating i =
      if (s.inventoryRecord (supplyEndpoint i)).state = .valid ∨
        (s.inventoryRecord (supplyEndpoint i)).state = .reading then q.field1 else 0 := by
  rw [State.effectiveRating_of_no_override hunset, State.suppliedRating, State.suppliedFields_eq_ite, hfields]
  split <;> rfl

/-! ## The OK supplies and their ratings (R102, R106) -/

/-- R102: OK while both debounced levels are 1. -/
theorem Supply.state_beq_ok (r : Supply) : (r.state == .ok) = (r.present && r.ok) := by
  cases hpresent : r.present <;> cases hok : r.ok <;> simp [Supply.state, hpresent, hok]

theorem State.okRatings_eq_map_filter (s : State) (bays : List BayId) :
    s.okRatings bays = (bays.filter fun b => (s.supply b).present && (s.supply b).ok).map s.effectiveRating := by
  simp only [State.okRatings, Supply.state_beq_ok]

/-- The OK ratings sum as if every other bay gave 0 W. -/
theorem State.sum_okRatings (s : State) (bays : List BayId) :
    (s.okRatings bays).sum =
      (bays.map fun b => if (s.supply b).present && (s.supply b).ok then s.effectiveRating b else 0).sum := by
  rw [State.okRatings_eq_map_filter]
  induction bays with
  | nil => rfl
  | cons b rest ih => rw [List.filter_cons]; split <;> simp_all

theorem mem_allFour (i : Fin 4) : i ∈ allFour := by
  revert i; decide

theorem State.mem_okRatings_allFour {s : State} {w : Nat} :
    w ∈ s.okRatings allFour ↔
      ∃ b : BayId, ((s.supply b).present && (s.supply b).ok) = true ∧ s.effectiveRating b = w := by
  simp only [State.okRatings_eq_map_filter, List.mem_map, List.mem_filter, mem_allFour, true_and]

/-- R106: at least two supplies are OK exactly when two different bays are. -/
theorem State.two_le_length_okRatings_iff (s : State) :
    2 ≤ (s.okRatings allFour).length ↔
      ∃ b c : BayId, b ≠ c ∧ ((s.supply b).present && (s.supply b).ok) = true ∧
        ((s.supply c).present && (s.supply c).ok) = true := by
  have hnodup : (allFour.filter fun b => (s.supply b).present && (s.supply b).ok).Nodup :=
    List.Nodup.filter _ (by decide)
  rw [State.okRatings_eq_map_filter, List.length_map, ← List.toFinset_card_of_nodup hnodup]
  refine Finset.one_lt_card_iff.trans (exists₂_congr fun b c => ?_)
  simp only [List.mem_toFinset, List.mem_filter, mem_allFour, true_and]
  tauto

/-- A member no other exceeds is what the maximum folds to. -/
theorem foldl_max_eq_of_mem_of_le {l : List Nat} {m : Nat} (hmem : m ∈ l) (hle : ∀ w ∈ l, w ≤ m) :
    l.foldl max 0 = m := by
  have hmax : (0 :: l).max? = some m := List.max?_eq_some_iff.mpr ⟨.tail 0 hmem, by simpa using hle⟩
  exact Option.some.inj hmax

/-! ## The capacity by mode (R106) -/

theorem State.capacity_of_none {s : State} (hmode : s.budget.redundancy = .none) :
    s.capacity = (s.okRatings allFour).sum := by
  simp only [State.capacity, hmode]

theorem State.capacity_of_feedSplit {s : State} (hmode : s.budget.redundancy = .feedSplit) :
    s.capacity = min (s.okRatings [0, 1]).sum (s.okRatings [2, 3]).sum := by
  simp only [State.capacity, hmode]

/-- R106: N_PLUS_1 with fewer than two OK supplies. -/
theorem State.capacity_of_nPlusOne_of_lt {s : State} (hmode : s.budget.redundancy = .nPlusOne)
    (hfew : (s.okRatings allFour).length < 2) : s.capacity = 0 := by
  simp only [State.capacity, hmode, if_pos hfew]

/-- R106: N_PLUS_1 with two OK supplies or more leaves out the largest rating. -/
theorem State.capacity_add_of_nPlusOne {s : State} {m : Nat} (hmode : s.budget.redundancy = .nPlusOne)
    (htwo : 2 ≤ (s.okRatings allFour).length) (hmem : m ∈ s.okRatings allFour)
    (hle : ∀ w ∈ s.okRatings allFour, w ≤ m) : s.capacity + m = (s.okRatings allFour).sum := by
  have hlargest := foldl_max_eq_of_mem_of_le hmem hle
  have hcapacity : s.capacity = (s.okRatings allFour).sum - m := by
    simp only [State.capacity, hmode, if_neg htwo.not_gt, hlargest]
  rw [hcapacity, Nat.sub_add_cancel (List.le_sum_of_mem hmem)]

/-- Settles O59: the sums of the OK ratings are the shares of the bays, and the count and the largest member of the OK
ratings decide N_PLUS_1. -/
theorem capacityFollowsTheMode : Obligations.CapacityFollowsTheMode := by
  intro s i rating ok share total
  have hrating : s.effectiveRating = rating := by
    funext b
    cases hoverride : (s.supply b).override with
    | some w => simp only [rating, hoverride, State.effectiveRating_of_override hoverride]
    | none =>
      cases hfields : (s.inventoryRecord (supplyEndpoint b)).fields with
      | none => simp only [rating, hoverride, hfields, State.effectiveRating_of_no_fields hoverride hfields]
      | some q => simp only [rating, hoverride, hfields, State.effectiveRating_of_fields hoverride hfields]
  have hsum (bays : List BayId) : (s.okRatings bays).sum = (bays.map share).sum := by
    rw [s.sum_okRatings, hrating]
  have htotal : (s.okRatings allFour).sum = total := by
    rw [hsum]; simp [allFour, total, Nat.add_assoc]
  refine ⟨congrFun hrating i, fun hmode => ?all, fun hmode => ⟨fun htwo hok hlargest => ?spare, fun hfew => ?alone⟩,
    fun hmode => ?feeds⟩
  case all => exact (State.capacity_of_none hmode).trans htotal
  case spare =>
    have hmem : rating i ∈ s.okRatings allFour := State.mem_okRatings_allFour.mpr ⟨i, hok, congrFun hrating i⟩
    have hle : ∀ w ∈ s.okRatings allFour, w ≤ rating i := by
      intro w hw
      obtain ⟨b, hb, rfl⟩ := State.mem_okRatings_allFour.mp hw
      exact hrating ▸ hlargest b hb
    have hcount := s.two_le_length_okRatings_iff.mpr htwo
    exact (State.capacity_add_of_nPlusOne hmode hcount hmem hle).trans htotal
  case alone =>
    have hcount := mt s.two_le_length_okRatings_iff.mp hfew
    exact State.capacity_of_nPlusOne_of_lt hmode (not_le.mp hcount)
  case feeds =>
    rw [State.capacity_of_feedSplit hmode, hsum, hsum]
    simp

end Sys2Proof.Machine
end

section
/-! The duty law (O54): the bounds of a rounded-up quotient, which segment of a curve a temperature reaches, the straight
line of that segment rounded up, and the boost for missing fans. -/

namespace Sys2Proof.Machine

/-! ## Division rounded up (section 3.1) -/

theorem le_ceilDiv_mul (a : Nat) {b : Nat} (hb : 0 < b) : a ≤ ceilDiv a b * b := by
  have hsplit := Nat.div_add_mod' (a + b - 1) b
  have hmod := Nat.mod_lt (a + b - 1) hb
  rw [ceilDiv]; omega

theorem ceilDiv_mul_lt (a : Nat) {b : Nat} (hb : 0 < b) : ceilDiv a b * b < a + b := by
  have hfloor := Nat.div_mul_le_self (a + b - 1) b
  rw [ceilDiv]; omega

@[simp] theorem ceilDiv_zero_left (b : Nat) : ceilDiv 0 b = 0 := by
  cases b <;> simp [ceilDiv]

/-! ## The segment a temperature lies in (R134) -/

theorem curveFrom_cons_of_lt {p q : CurvePoint} {rest : List CurvePoint} {t : Int} (hbelow : t < q.temperature) :
    curveFrom p (q :: rest) t =
      p.duty + ceilDiv ((q.duty - p.duty) * (t - p.temperature).toNat) (q.temperature - p.temperature).toNat :=
  if_pos hbelow

theorem curveFrom_cons_of_le {p q : CurvePoint} {rest : List CurvePoint} {t : Int} (hreached : q.temperature ≤ t) :
    curveFrom p (q :: rest) t = curveFrom q rest t :=
  if_neg hreached.not_gt

theorem curveDuty_cons_of_le {p : CurvePoint} {rest : List CurvePoint} {t : Int} (hbelow : t ≤ p.temperature) :
    curveDuty (p :: rest) t = p.duty :=
  if_pos hbelow

theorem curveDuty_cons_of_lt {p : CurvePoint} {rest : List CurvePoint} {t : Int} (habove : p.temperature < t) :
    curveDuty (p :: rest) t = curveFrom p rest t :=
  if_neg habove.not_ge

/-- The points a temperature has reached are passed over, down to the last of them. -/
theorem curveFrom_append_cons {passed rest : List CurvePoint} {p q : CurvePoint} {t : Int}
    (hpassed : ∀ a ∈ passed, a.temperature ≤ t) (hreached : q.temperature ≤ t) :
    curveFrom p (passed ++ q :: rest) t = curveFrom q rest t := by
  induction passed generalizing p with
  | nil => exact curveFrom_cons_of_le hreached
  | cons a passed ih =>
    obtain ⟨ha, hothers⟩ := List.forall_mem_cons.mp hpassed
    rw [List.cons_append, curveFrom_cons_of_le ha, ih hothers]

/-- At a point's own temperature the segment above it adds nothing. -/
theorem curveFrom_self {p : CurvePoint} {rest : List CurvePoint} (habove : ∀ q ∈ rest, p.temperature < q.temperature) :
    curveFrom p rest p.temperature = p.duty := by
  cases rest with
  | nil => rfl
  | cons q rest => simp [curveFrom_cons_of_lt (habove q List.mem_cons_self)]

/-- R134: on a rising curve a temperature that has reached a point is judged from that point on. -/
theorem curveDuty_append_cons {before rest : List CurvePoint} {p : CurvePoint} {t : Int}
    (hrising : (before ++ p :: rest).Pairwise fun a b => a.temperature < b.temperature) (hreached : p.temperature ≤ t) :
    curveDuty (before ++ p :: rest) t = curveFrom p rest t := by
  obtain ⟨-, hfrom, hbefore⟩ := List.pairwise_append.mp hrising
  have hlower (a : CurvePoint) (ha : a ∈ before) : a.temperature < t :=
    (hbefore a ha p List.mem_cons_self).trans_le hreached
  cases before with
  | nil =>
    obtain rfl | habove := hreached.eq_or_lt
    · rw [List.nil_append, curveDuty_cons_of_le le_rfl, curveFrom_self (List.pairwise_cons.mp hfrom).1]
    · exact curveDuty_cons_of_lt habove
  | cons first before =>
    obtain ⟨hfirst, hothers⟩ := List.forall_mem_cons.mp hlower
    rw [List.cons_append, curveDuty_cons_of_lt hfirst,
      curveFrom_append_cons (fun a ha => (hothers a ha).le) hreached]

/-! ## The straight line rounded up (R134) -/

/-- R134: between two points the duty is the line between them, multiplied out, rounded up by less than one. -/
theorem curveFrom_cons_bounds {p q : CurvePoint} {rest : List CurvePoint} {t : Int} (hduty : p.duty ≤ q.duty)
    (hreached : p.temperature ≤ t) (hbelow : t < q.temperature) :
    (p.duty : Int) ≤ curveFrom p (q :: rest) t ∧
    ((q.duty : Int) - p.duty) * (t - p.temperature) ≤
      (curveFrom p (q :: rest) t - p.duty) * (q.temperature - p.temperature) ∧
    (curveFrom p (q :: rest) t - p.duty) * (q.temperature - p.temperature) <
      ((q.duty : Int) - p.duty) * (t - p.temperature) + (q.temperature - p.temperature) := by
  obtain ⟨rise, hrise⟩ := Nat.exists_eq_add_of_le hduty
  obtain ⟨run, hrun⟩ := Int.le.dest hreached
  obtain ⟨width, hwidth⟩ := Int.le.dest (hreached.trans hbelow.le)
  have hpositive : 0 < width := by omega
  have hline : curveFrom p (q :: rest) t = p.duty + ceilDiv (rise * run) width := by
    rw [curveFrom_cons_of_lt hbelow, hrise, ← hrun, ← hwidth]
    simp
  have hlow := le_ceilDiv_mul (rise * run) hpositive
  have hhigh := ceilDiv_mul_lt (rise * run) hpositive
  rw [hline, hrise, ← hrun, ← hwidth]
  push_cast
  simp only [add_sub_cancel_left]
  exact ⟨by omega, mod_cast hlow, mod_cast hhigh⟩

/-! ## The boost (R136) -/

theorem boostedDuty_no_fan (target : Nat) : boostedDuty target 0 = 1000 := rfl

theorem boostedDuty_one_fan (target : Nat) : boostedDuty target 1 = min 1000 (2 * target) := by
  simp [boostedDuty, ceilDiv, Nat.mul_comm]

theorem boostedDuty_two_fans (target : Nat) : boostedDuty target 2 = min 1000 target := by
  have hhalf : ceilDiv (target * 2) 2 = target := by rw [ceilDiv]; omega
  simp [boostedDuty, hhalf]

/-- Settles O54: a rising curve is judged from the last point the temperature has reached, where either the curve ends
or the next segment's line is rounded up. -/
theorem dutyFollowsTheCurve : Obligations.DutyFollowsTheCurve := by
  intro before after p q t target
  refine ⟨⟨fun _ hbelow => ?first, fun hrising hreached => ?last, fun hrising hreached hbelow => ?between⟩,
    boostedDuty_no_fan target, boostedDuty_one_fan target, boostedDuty_two_fans target⟩
  case first => exact curveDuty_cons_of_le hbelow
  case last => exact curveDuty_append_cons (hrising.imp And.left) hreached
  case between =>
    obtain ⟨-, hfrom, -⟩ := List.pairwise_append.mp hrising
    have hduty : p.duty ≤ q.duty := (List.rel_of_pairwise_cons hfrom List.mem_cons_self).2
    rw [curveDuty_append_cons (hrising.imp And.left) hreached]
    exact curveFrom_cons_bounds hduty hreached hbelow

end Sys2Proof.Machine
end

section
/-! Asking (R43 to R45): a request to an endpoint that is neither ABSENT nor LOST stands in the pending table or goes
straight out. -/

namespace Sys2Proof.Machine

theorem mem_enterRequest (table : List Request) (r : Request) : r ∈ enterRequest table r := by
  induction table with
  | nil => exact List.mem_singleton_self r
  | cons q rest ih =>
    rw [enterRequest]
    split
    · exact List.mem_cons_self
    · exact .tail q ih

/-- R45: an entry sent is in flight; every other entry stays pending. -/
theorem State.asked_send {s : State} (r : Request) {e : Endpoint} {k : TransactionKind}
    (hwaits : s.waits e k) : (s.send r).asked e k := by
  obtain ⟨q, hmem, rfl, rfl⟩ := hwaits
  by_cases hsent : q.endpoint = r.endpoint ∧ q.kind = r.kind
  · exact .inr ⟨_, rfl, hsent.1.symm, hsent.2.symm⟩
  · exact .inl ⟨q, List.mem_filter.mpr ⟨hmem, by simpa [imp_iff_not_or] using hsent⟩, rfl, rfl⟩

/-- R44: whether the arbiter sends it or not, a pending entry stays asked. -/
theorem State.asked_arbitrate {s : State} {e : Endpoint} {k : TransactionKind} (hwaits : s.waits e k) :
    s.arbitrate.asked e k := by
  unfold State.arbitrate
  split
  · exact .inl hwaits
  · split
    · exact State.asked_send _ hwaits
    · exact .inl hwaits

theorem State.asked_request {s : State} {r : Request} (hpresent : s.linkState r.endpoint ≠ .absent)
    (haccepted : s.linkState r.endpoint ≠ .lost) : (s.request r).asked r.endpoint r.kind := by
  rw [State.request, if_neg (by simp [State.refusesRequest, hpresent, haccepted])]
  exact State.asked_arbitrate ⟨r, mem_enterRequest _ r, rfl, rfl⟩

end Sys2Proof.Machine
end

section
/-! The rework of the uplinks (O57): how far it reaches, the stand-in as the largest uplink of the group, the pin record
it leaves, the shares of a capacity, and when PINS is asked. -/

namespace Sys2Proof.Machine

/-! ## How far the rework reaches (R159) -/

/-- Only the link and pin records differ. -/
def OnlyPins (s t : State) : Prop := ∃ l p, t = { s with link := l, uplinks := { s.uplinks with pins := p } }

theorem OnlyPins.refl (s : State) : OnlyPins s s := ⟨s.link, s.uplinks.pins, rfl⟩

theorem OnlyPins.trans {s t u : State} : OnlyPins s t → OnlyPins t u → OnlyPins s u := by
  rintro ⟨l, p, rfl⟩ ⟨m, q, rfl⟩
  exact ⟨m, q, rfl⟩

theorem OnlyPins.eq {s t : State} :
    OnlyPins s t → t = { s with link := t.link, uplinks := { s.uplinks with pins := t.uplinks.pins } } := by
  rintro ⟨l, p, rfl⟩
  rfl

theorem OnlyPins.port {s t : State} (u : UplinkId) : OnlyPins s t → t.port u = s.port u := by
  rintro ⟨l, p, rfl⟩
  rfl

theorem OnlyLink.onlyPins {s t : State} : OnlyLink s t → OnlyPins s t := by
  rintro ⟨l, rfl⟩
  exact ⟨l, s.uplinks.pins, rfl⟩

theorem State.updatePin_onlyPins (s : State) (n : SlotId) (f : Pin → Pin) : OnlyPins s (s.updatePin n f) :=
  ⟨_, _, rfl⟩

theorem State.reselect_onlyPins (s : State) : OnlyPins s s.reselect :=
  foldl_reach OnlyPins .refl (fun _ _ _ => .trans) _
    (fun t _ => by unfold State.reselectBlade; split <;> exact t.updatePin_onlyPins _ _) _ _

theorem State.recomputeRates_onlyPins (s : State) : OnlyPins s s.recomputeRates :=
  foldl_reach OnlyPins .refl (fun _ _ _ => .trans) _ (fun t _ => t.updatePin_onlyPins _ _) _ _

theorem State.requestPins_onlyLink (s : State) : OnlyLink s s.requestPins := s.requestKind_reach _ _ _

theorem State.rework_onlyPins (s : State) : OnlyPins s s.rework := by
  have htable : OnlyPins s s.reselect.recomputeRates := s.reselect_onlyPins.trans (State.recomputeRates_onlyPins _)
  unfold State.rework State.programIfChanged
  split
  · exact htable
  · exact htable.trans (State.requestPins_onlyLink _).onlyPins

/-- R168: asking for PINS changes no pin record. -/
theorem State.pin_programIfChanged (s t : State) (n : SlotId) : (State.programIfChanged s t).pin n = t.pin n := by
  unfold State.programIfChanged
  split
  · rfl
  · obtain ⟨l, hlink⟩ := t.requestPins_onlyLink
    rw [hlink]
    rfl

/-! ## The stand-in (R161) -/

/-- R161: an UP uplink other than p in p's group. -/
abbrev State.CanStandIn (s : State) (p u : UplinkId) : Prop :=
  u ≠ p ∧ (s.port u).up = true ∧ (s.port u).group = (s.port p).group

/-- The candidates that the selection folds over, in the order of their numbers. -/
def State.standInCandidates (s : State) (p : UplinkId) : List UplinkId :=
  allFour.filter fun u => u ≠ p && (s.port u).up && (s.port u).group = (s.port p).group

theorem State.mem_standInCandidates {s : State} {p u : UplinkId} :
    u ∈ s.standInCandidates p ↔ s.CanStandIn p u := by
  simp [State.standInCandidates, State.CanStandIn, mem_allFour, and_assoc]

theorem State.sortedLT_standInCandidates (s : State) (p : UplinkId) : (s.standInCandidates p).SortedLT :=
  ((by decide : allFour.Pairwise (· < ·)).filter _).sortedLT

/-- The model's fold takes the first candidate of the largest capacity. -/
theorem State.standIn_eq_argmax (s : State) (p : UplinkId) :
    s.standIn p = (s.standInCandidates p).argmax fun u => (s.port u).capacity := by
  unfold State.standIn State.standInCandidates List.argmax
  congr 1
  funext best u
  cases best <;> rfl

theorem State.standIn_eq_none_iff {s : State} {p : UplinkId} : s.standIn p = none ↔ ¬ ∃ u, s.CanStandIn p u := by
  simp only [State.standIn_eq_argmax, List.argmax_eq_none, List.eq_nil_iff_forall_not_mem,
    State.mem_standInCandidates, not_exists]

/-- In a list in strict order an index no greater names an element no greater. -/
theorem le_of_idxOf_le_idxOf {l : List UplinkId} (hsorted : l.SortedLT) {u v : UplinkId} (hu : u ∈ l) (hv : v ∈ l)
    (hle : l.idxOf u ≤ l.idxOf v) : u ≤ v := by
  have hmono := hsorted.strictMono_get.monotone
    (a := ⟨l.idxOf u, List.idxOf_lt_length_of_mem hu⟩) (b := ⟨l.idxOf v, List.idxOf_lt_length_of_mem hv⟩) hle
  simpa using hmono

/-- R161: the stand-in has the largest capacity of the candidates, and the lowest number among equals. -/
theorem State.standIn_eq_some {s : State} {p u : UplinkId} (hu : s.standIn p = some u) :
    s.CanStandIn p u ∧ ∀ v, s.CanStandIn p v → (s.port v).capacity < (s.port u).capacity ∨
      (s.port v).capacity = (s.port u).capacity ∧ u ≤ v := by
  rw [State.standIn_eq_argmax, List.argmax_eq_some_iff] at hu
  obtain ⟨hmem, hlargest, hfirst⟩ := hu
  refine ⟨State.mem_standInCandidates.mp hmem, fun v hv => ?_⟩
  have hvmem := State.mem_standInCandidates.mpr hv
  exact (hlargest v hvmem).lt_or_eq.imp_right fun heq =>
    ⟨heq, le_of_idxOf_le_idxOf (s.sortedLT_standInCandidates p) hmem hvmem (hfirst v hvmem heq.ge)⟩

/-! ## The rows of the selection table (R161) -/

theorem State.selectUplink_of_unpreferred {s : State} {n : SlotId} (hpreferred : (s.pin n).preferred = none) :
    s.selectUplink n = (none, (s.pin n).failbackTimer) := by
  simp only [State.selectUplink, hpreferred]

theorem State.selectUplink_of_up {s : State} {n : SlotId} {p : UplinkId} (hpreferred : (s.pin n).preferred = some p)
    (hdirect : (s.pin n).failbackTimer = none ∧ (s.port p).up = true) : s.selectUplink n = (some p, none) := by
  simp [State.selectUplink, hpreferred, hdirect]

theorem State.selectUplink_of_standIn {s : State} {n : SlotId} {p u : UplinkId}
    (hpreferred : (s.pin n).preferred = some p) (hdirect : ¬ ((s.pin n).failbackTimer = none ∧ (s.port p).up = true))
    (hstand : s.standIn p = some u) : s.selectUplink n = (some u, (s.pin n).failbackTimer) := by
  simp [State.selectUplink, hpreferred, hdirect, hstand]

/-- R161: without a stand-in a held blade goes to its preferred uplink, and any other is isolated. -/
theorem State.selectUplink_of_alone {s : State} {n : SlotId} {p : UplinkId}
    (hpreferred : (s.pin n).preferred = some p) (hdirect : ¬ ((s.pin n).failbackTimer = none ∧ (s.port p).up = true))
    (hstand : s.standIn p = none) :
    s.selectUplink n = (if (s.pin n).failbackTimer = none then none else some p, none) := by
  cases htimer : (s.pin n).failbackTimer <;> simp_all [State.selectUplink]

/-! ## The selection of one blade (R161) -/

/-- R161: a blade's pin record after its selection. -/
def State.reselectedPin (s : State) (n : SlotId) : Pin :=
  if s.isOn n then { s.pin n with active := (s.selectUplink n).1, failbackTimer := (s.selectUplink n).2 }
  else { s.pin n with active := none, failbackTimer := none }

theorem State.reselectBlade_eq_updatePin (s : State) (n : SlotId) :
    s.reselectBlade n = s.updatePin n fun _ => s.reselectedPin n := by
  unfold State.reselectBlade State.reselectedPin
  split <;> rfl

/-- The selection of a blade reads no other blade's pin record. -/
theorem State.reselectedPin_updatePin (s : State) {m n : SlotId} (f : Pin → Pin) (hne : m ≠ n) :
    (s.updatePin m f).reselectedPin n = s.reselectedPin n := by
  have hpin : (s.updatePin m f).pin n = s.pin n := by simp [hne]
  have hselect : (s.updatePin m f).selectUplink n = s.selectUplink n := by
    unfold State.selectUplink
    rw [hpin]
    rfl
  unfold State.reselectedPin
  rw [hpin, hselect]
  rfl

theorem State.reselectedPin_frame (s : State) (n : SlotId) :
    ∃ active timer, s.reselectedPin n = { s.pin n with active := active, failbackTimer := timer } := by
  unfold State.reselectedPin
  split <;> exact ⟨_, _, rfl⟩

/-- R161: the selection of a blade is the selection table's. -/
theorem State.selects_reselectedPin (s : State) (n : SlotId) :
    s.selects n (s.pin n).failbackTimer (s.reselectedPin n).active (s.reselectedPin n).failbackTimer := by
  cases hon : s.isOn n with
  | false => simp [State.selects, State.reselectedPin, hon]
  | true =>
    simp only [State.selects, State.reselectedPin, hon, if_true]
    cases hpreferred : (s.pin n).preferred with
    | none => simp [State.selectUplink_of_unpreferred hpreferred]
    | some p =>
      by_cases hdirect : (s.pin n).failbackTimer = none ∧ (s.port p).up = true
      · simp [State.selectUplink_of_up hpreferred hdirect, hdirect]
      · cases hstand : s.standIn p with
        | some u =>
          obtain ⟨hcan, hbest⟩ := State.standIn_eq_some hstand
          simp only [State.selectUplink_of_standIn hpreferred hdirect hstand, if_neg hdirect]
          rw [if_pos ⟨u, hcan⟩]
          exact ⟨trivial, u, rfl, hcan, hbest⟩
        | none =>
          simp only [State.selectUplink_of_alone hpreferred hdirect hstand, if_neg hdirect]
          rw [if_neg (State.standIn_eq_none_iff.mp hstand)]
          cases (s.pin n).failbackTimer <;> simp

/-! ## The pin records after the rework (R159) -/

theorem mem_allSlots (n : SlotId) : n ∈ allSlots := by
  revert n; decide

/-- A pass over the blades that gives each a record made from its own leaves every blade visited with the record made
from the first state. -/
theorem State.pin_foldl_updatePin (after : State → SlotId → Pin)
    (hlocal : ∀ (t : State) (m n : SlotId) (f : Pin → Pin), m ≠ n → after (t.updatePin m f) n = after t n)
    {l : List SlotId} (hnodup : l.Nodup) (s : State) (n : SlotId) :
    (l.foldl (fun t m => t.updatePin m fun _ => after t m) s).pin n = if n ∈ l then after s n else s.pin n := by
  induction l generalizing s with
  | nil => rfl
  | cons m rest ih =>
    obtain ⟨hfirst, hrest⟩ := List.nodup_cons.mp hnodup
    rw [List.foldl_cons, ih hrest, State.pin_updatePin]
    by_cases hn : m = n
    · subst hn
      simp [hfirst]
    · simp [hlocal s m n _ hn, hn, Ne.symm hn]

theorem State.pin_reselect (s : State) (n : SlotId) : s.reselect.pin n = s.reselectedPin n := by
  have hpass : s.reselect = allSlots.foldl (fun t m => t.updatePin m fun _ => t.reselectedPin m) s :=
    congrArg (allSlots.foldl · s) (funext₂ State.reselectBlade_eq_updatePin)
  rw [hpass, State.pin_foldl_updatePin _ (fun t _ _ => t.reselectedPin_updatePin) (by decide), if_pos (mem_allSlots n)]

theorem State.pin_recomputeRates (s : State) (n : SlotId) :
    s.recomputeRates.pin n = { s.pin n with rate := s.targetRate n } := by
  have hpass := State.pin_foldl_updatePin (fun t m => { t.pin m with rate := s.targetRate m })
    (fun t m n f hne => by simp [hne]) (l := allSlots) (by decide) s n
  exact hpass.trans (if_pos (mem_allSlots n))

theorem State.pin_rework (s : State) (n : SlotId) :
    s.rework.pin n = { s.reselectedPin n with rate := s.reselect.targetRate n } := by
  rw [State.rework, State.pin_programIfChanged, State.pin_recomputeRates, State.pin_reselect]

/-- The rework changes a pin record in its active uplink, its rate and its failback timer only. -/
theorem State.pin_rework_frame (s : State) (n : SlotId) :
    s.rework.pin n = { s.pin n with
      active := (s.rework.pin n).active, rate := (s.rework.pin n).rate,
      failbackTimer := (s.rework.pin n).failbackTimer } := by
  obtain ⟨active, timer, hselected⟩ := s.reselectedPin_frame n
  rw [State.pin_rework, hselected]

/-! ## The shares (R167) -/

theorem State.targetRate_of_none {s : State} {n : SlotId} (hactive : (s.pin n).active = none) : s.targetRate n = 0 := by
  simp only [State.targetRate, hactive]

theorem State.targetRate_of_some {s : State} {n : SlotId} {u : UplinkId} (hactive : (s.pin n).active = some u) :
    s.targetRate n = min (s.pin n).portSpeed ((s.port u).capacity * (s.pin n).weight / s.weightSum u) := by
  simp only [State.targetRate, hactive]

theorem State.members_eq_filter (s : State) (u : UplinkId) :
    s.members u = allSlots.filter fun n => (s.pin n).active = some u := by
  simp only [State.members, beq_eq_decide]

theorem State.active_of_mem_members {s : State} {u : UplinkId} {n : SlotId} (hmem : n ∈ s.members u) :
    (s.pin n).active = some u := by
  simpa using (List.mem_filter.mp hmem).2

/-- The target rates do not read the rates that stand. -/
theorem State.targetRate_congr {s t : State} (hport : ∀ u, t.port u = s.port u)
    (hpin : ∀ m, t.pin m = { s.pin m with rate := (t.pin m).rate }) (n : SlotId) :
    t.targetRate n = s.targetRate n := by
  have hactive (m : SlotId) : (t.pin m).active = (s.pin m).active := by rw [hpin m]
  have hweight (m : SlotId) : (t.pin m).weight = (s.pin m).weight := by rw [hpin m]
  have hspeed (m : SlotId) : (t.pin m).portSpeed = (s.pin m).portSpeed := by rw [hpin m]
  simp only [State.targetRate, State.weightSum, State.members, hactive, hweight, hspeed, hport]

/-- R167: after the rework every blade's rate is its target rate. -/
theorem State.rate_rework (s : State) (n : SlotId) : (s.rework.pin n).rate = s.rework.targetRate n := by
  have hport (u : UplinkId) : s.rework.port u = s.reselect.port u :=
    (s.rework_onlyPins.port u).trans (s.reselect_onlyPins.port u).symm
  have hpin (m : SlotId) : s.rework.pin m = { s.reselect.pin m with rate := (s.rework.pin m).rate } := by
    rw [State.pin_rework, State.pin_reselect]
  rw [State.targetRate_congr hport hpin, State.pin_rework]

/-- Shares rounded down sum to no more than the whole shared. -/
theorem sum_map_div_le {α : Type} (c w : Nat) (weight : α → Nat) (l : List α) :
    (l.map fun a => c * weight a / w).sum ≤ c * (l.map weight).sum / w := by
  induction l with
  | nil => simp
  | cons a rest ih =>
    calc (((a :: rest).map fun a => c * weight a / w)).sum
        ≤ c * weight a / w + c * (rest.map weight).sum / w := by simpa using ih
      _ ≤ (c * weight a + c * (rest.map weight).sum) / w := Nat.div_add_div_le_add_div
      _ = c * ((a :: rest).map weight).sum / w := by rw [List.map_cons, List.sum_cons, Nat.mul_add]

/-- R167: the target rates of an uplink's blades sum to no more than its capacity. -/
theorem State.sum_targetRate_le (s : State) (u : UplinkId) :
    ((s.members u).map s.targetRate).sum ≤ (s.port u).capacity := by
  have hshare (n : SlotId) (hmem : n ∈ s.members u) :
      s.targetRate n ≤ (s.port u).capacity * (s.pin n).weight / s.weightSum u :=
    (State.targetRate_of_some (State.active_of_mem_members hmem)).trans_le (min_le_right _ _)
  calc ((s.members u).map s.targetRate).sum
      ≤ ((s.members u).map fun n => (s.port u).capacity * (s.pin n).weight / s.weightSum u).sum :=
        List.sum_le_sum hshare
    _ ≤ (s.port u).capacity * s.weightSum u / s.weightSum u := sum_map_div_le _ _ _ _
    _ ≤ (s.port u).capacity := Nat.div_le_of_le_mul (Nat.mul_comm _ _).le

/-! ## The programming of the switch (R168) -/

theorem uplinkNumber_injective : Function.Injective uplinkNumber := by
  decide

/-- Equal pin tables agree in every blade's active uplink and rate. -/
theorem State.active_and_rate_eq_of_pinTable_eq {s t : State} (htable : s.pinTable = t.pinTable) (n : SlotId) :
    (t.pin n).active = (s.pin n).active ∧ (t.pin n).rate = (s.pin n).rate := by
  have hentry := List.map_inj_left.mp htable n (mem_allSlots n)
  obtain ⟨hnumber, hrate⟩ := Prod.mk.inj hentry
  exact ⟨(uplinkNumber_injective hnumber).symm, hrate.symm⟩

/-- R168: a changed table asks the switch for PINS. -/
theorem State.asked_programIfChanged {s t : State} (hchanged : s.pinTable ≠ t.pinTable)
    (hpresent : t.linkState 0 ≠ .absent) (hreached : t.linkState 0 ≠ .lost) :
    (State.programIfChanged s t).asked 0 .pins := by
  rw [State.programIfChanged, if_neg hchanged]
  exact State.asked_request (r := ⟨0, .pins, 0, .uplinkAllocator⟩) hpresent hreached

/-- The selection and the rates leave the Link Engine alone; only the programming reaches it. -/
theorem State.link_recomputeRates_reselect (s : State) : s.reselect.recomputeRates.link = s.link := by
  have hselect (t : State) (n : SlotId) : (t.reselectBlade n).link = t.link := by
    rw [State.reselectBlade_eq_updatePin, State.updatePin_link]
  unfold State.recomputeRates
  rw [foldl_keeps State.link _ fun t n => t.updatePin_link n _]
  exact foldl_keeps State.link _ hselect _ _

theorem State.asked_rework {s : State} {n : SlotId}
    (hmoved : (s.rework.pin n).active ≠ (s.pin n).active ∨ (s.rework.pin n).rate ≠ (s.pin n).rate)
    (hpresent : s.linkState 0 ≠ .absent) (hreached : s.linkState 0 ≠ .lost) : s.rework.asked 0 .pins := by
  have hlink : s.reselect.recomputeRates.linkState 0 = s.linkState 0 := by
    simp only [State.linkState, State.linkRecord, State.link_recomputeRates_reselect]
  rw [State.rework, State.pin_programIfChanged] at hmoved
  have hchanged : s.pinTable ≠ s.reselect.recomputeRates.pinTable := fun htable => by
    obtain ⟨hactive, hrate⟩ := State.active_and_rate_eq_of_pinTable_eq htable n
    exact hmoved.elim (· hactive) (· hrate)
  exact State.asked_programIfChanged hchanged (hlink.trans_ne hpresent) (hlink.trans_ne hreached)

/-- Settles O57: each blade's record after the rework is its selection with its target rate, which the shares of the
uplink's capacity bound, and a changed record changes the pin table. -/
theorem reworkSharesTheUplinks : Obligations.ReworkSharesTheUplinks := by
  intro s n u t old new members weights
  have hpin : new = { s.reselectedPin n with rate := s.reselect.targetRate n } := s.pin_rework n
  have hmembers : members = t.members u := (t.members_eq_filter u).symm
  have hrate : new.rate = t.targetRate n := s.rate_rework n
  refine ⟨s.rework_onlyPins.eq, s.pin_rework_frame n, ?selection, fun hnone => ?isolated, fun hactive => ?share,
    ?total, State.asked_rework⟩
  case selection => rw [hpin]; exact s.selects_reselectedPin n
  case isolated => exact hrate.trans (State.targetRate_of_none hnone)
  case share =>
    have hweights : weights = t.weightSum u := congrArg (fun l => (l.map fun m => (t.pin m).weight).sum) hmembers
    rw [hrate, State.targetRate_of_some hactive, hweights, s.rework_onlyPins.port u]
    rfl
  case total =>
    have hrates : (members.map fun m => t.uplinks.pins[m].rate) = (t.members u).map t.targetRate := by
      rw [hmembers]
      exact List.map_congr_left fun m _ => s.rate_rework m
    rw [hrates]
    exact (t.sum_targetRate_le u).trans_eq (congrArg Uplink.capacity (s.rework_onlyPins.port u))

end Sys2Proof.Machine
end

section
/-! The Event List (O43): what an append and an acknowledgement leave of the entries, the kind a code names, and the
taking of ACK_EVENT in an event that no evaluation ends. -/

namespace Sys2Proof.Machine

/-! ## The entries after an append (R175) -/

theorem EventEntry.matches_iff (e : EventEntry) (source : Nat) (kind : EventKind) :
    e.matches source kind = true ↔ e.source = source ∧ e.kind = kind := by
  simp only [EventEntry.matches, Bool.and_eq_true, beq_iff_eq]

theorem appendEntry_cons_of_matches {e : EventEntry} {rest : List EventEntry} {source : Nat} {kind : EventKind}
    {detail : Word} (hmatch : e.source = source ∧ e.kind = kind) :
    appendEntry (e :: rest) source kind detail = { e with count := min 255 (e.count + 1), detail := detail } :: rest :=
  if_pos ((e.matches_iff source kind).mpr hmatch)

theorem appendEntry_cons_of_not_matches {e : EventEntry} {rest : List EventEntry} {source : Nat} {kind : EventKind}
    {detail : Word} (hmatch : ¬(e.source = source ∧ e.kind = kind)) :
    appendEntry (e :: rest) source kind detail = e :: appendEntry rest source kind detail :=
  if_neg (mt (e.matches_iff source kind).mp hmatch)

/-- An append passes over the entries of other sources and kinds. -/
theorem appendEntry_append {before rest : List EventEntry} {source : Nat} {kind : EventKind} {detail : Word}
    (hbefore : ∀ d ∈ before, ¬(d.source = source ∧ d.kind = kind)) :
    appendEntry (before ++ rest) source kind detail = before ++ appendEntry rest source kind detail := by
  induction before with
  | nil => rfl
  | cons d before ih =>
    obtain ⟨hd, hbefore⟩ := List.forall_mem_cons.mp hbefore
    rw [List.cons_append, appendEntry_cons_of_not_matches hd, ih hbefore, List.cons_append]

/-- R175: with no entry of its source and kind, an append puts one at the tail. -/
theorem appendEntry_of_unlisted {l : List EventEntry} {source : Nat} {kind : EventKind} {detail : Word}
    (hunlisted : ∀ d ∈ l, ¬(d.source = source ∧ d.kind = kind)) :
    appendEntry l source kind detail = l ++ [⟨source, kind, 1, detail⟩] := by
  simpa only [List.append_nil, appendEntry] using appendEntry_append (rest := []) (detail := detail) hunlisted

/-! ## The entries after an acknowledgement (R176) -/

theorem acknowledge_cons_of_matches {e : EventEntry} {rest : List EventEntry} {source : Nat} {kind : EventKind}
    {seen : Nat} (hmatch : e.source = source ∧ e.kind = kind) :
    acknowledge (e :: rest) source kind seen =
      if e.count < seen then none
      else if e.count = seen then some rest
      else some ({ e with count := e.count - seen } :: rest) :=
  if_pos ((e.matches_iff source kind).mpr hmatch)

theorem acknowledge_cons_of_not_matches {e : EventEntry} {rest : List EventEntry} {source : Nat} {kind : EventKind}
    {seen : Nat} (hmatch : ¬(e.source = source ∧ e.kind = kind)) :
    acknowledge (e :: rest) source kind seen = (acknowledge rest source kind seen).map (e :: ·) :=
  if_neg (mt (e.matches_iff source kind).mp hmatch)

/-- An acknowledgement passes over the entries of other sources and kinds. -/
theorem acknowledge_append {before rest : List EventEntry} {source : Nat} {kind : EventKind} {seen : Nat}
    (hbefore : ∀ d ∈ before, ¬(d.source = source ∧ d.kind = kind)) :
    acknowledge (before ++ rest) source kind seen = (acknowledge rest source kind seen).map (before ++ ·) := by
  induction before with
  | nil => exact Option.map_id'.symm
  | cons d before ih =>
    obtain ⟨hd, hbefore⟩ := List.forall_mem_cons.mp hbefore
    rw [List.cons_append, acknowledge_cons_of_not_matches hd, ih hbefore, Option.map_map]
    rfl

/-- R176: with no entry of its source and kind, an acknowledgement is refused. -/
theorem acknowledge_of_unlisted {l : List EventEntry} {source : Nat} {kind : EventKind} {seen : Nat}
    (hunlisted : ∀ d ∈ l, ¬(d.source = source ∧ d.kind = kind)) : acknowledge l source kind seen = none := by
  simpa only [List.append_nil, acknowledge, Option.map_none] using
    acknowledge_append (rest := []) (seen := seen) hunlisted

/-- R176: the first entry of the source and kind refuses a count above its own, leaves the list at its own count, and
else counts down in its place. -/
theorem acknowledge_of_listed {before after : List EventEntry} {e : EventEntry} {source : Nat} {kind : EventKind}
    {seen : Nat} (hmatch : e.source = source ∧ e.kind = kind)
    (hbefore : ∀ d ∈ before, ¬(d.source = source ∧ d.kind = kind)) :
    acknowledge (before ++ e :: after) source kind seen =
      if e.count < seen then none
      else if e.count = seen then some (before ++ after)
      else some (before ++ { e with count := e.count - seen } :: after) := by
  rw [acknowledge_append hbefore, acknowledge_cons_of_matches hmatch]
  split_ifs <;> rfl

/-! ## The codes of the kinds (R174, R176) -/

@[simp] theorem kindOfCode_kindCode (kind : EventKind) : kindOfCode (kindCode kind) = some kind := by
  cases kind <;> rfl

theorem kindCode_of_kindOfCode {code : Nat} {kind : EventKind} (hkind : kindOfCode code = some kind) :
    kindCode kind = code := by
  unfold kindOfCode at hkind
  split at hkind <;> cases hkind <;> rfl

/-- R174: the kinds have the codes 1..12. -/
theorem kindCode_bounds (kind : EventKind) : 1 ≤ kindCode kind ∧ kindCode kind ≤ 12 := by
  cases kind <;> decide

/-- R176: a code outside 1..12 names no kind. -/
theorem kindOfCode_eq_none {code : Nat} (houtside : code = 0 ∨ 12 < code) : kindOfCode code = none := by
  refine Option.eq_none_iff_forall_ne_some.mpr fun kind hkind => ?_
  have hbounds := kindCode_bounds kind
  rw [kindCode_of_kindOfCode hkind] at hbounds
  omega

/-! ## The fields of a command that aims at a target (R25, R26) -/

theorem CommandRecord.target_of_aims {r : CommandRecord} {target field : Nat} (haims : r.aims target field) :
    r.target.toNat = target := by
  obtain ⟨ha0, htarget, -⟩ := haims
  have hlow : r.target = natByte target := by
    rw [CommandRecord.target, ha0]
    exact lowByte_wordOf _ _
  rw [hlow, natByte, BitVec.toNat_ofNat, Nat.mod_eq_of_lt htarget]

theorem CommandRecord.authority_of_aims {r : CommandRecord} {target field : Nat} (haims : r.aims target field) :
    r.authority = field := by
  obtain ⟨ha0, -, hfield⟩ := haims
  have hhigh : highByte r.a0 = natByte field := by
    rw [ha0]
    exact highByte_wordOf _ _
  rw [CommandRecord.authority, hhigh, natByte, BitVec.toNat_ofNat, Nat.mod_eq_of_lt (by omega)]

theorem eventSourceTarget_of_aims {r : CommandRecord} {source field : Nat} (haims : r.aims source field)
    (hsource : source ≤ 26) : eventSourceTarget r = some source := by
  rw [eventSourceTarget, CommandRecord.target_of_aims haims, if_pos hsource]

/-! ## The taking of a command that leaves no evaluation due (R23, R24, R115) -/

/-- R24: past checks 2 to 4 the owner decides. -/
theorem judgeTarget_of_passes {α : Type} {find : CommandRecord → Option α} {present : α → State → Bool}
    {allowed : α → State → Nat → Bool} {owner : α → CommandRecord → State → Verdict × State} {r : CommandRecord}
    {s : State} {t : α} (hfind : find r = some t) (hpresent : present t s = true)
    (hallowed : allowed t s r.authority = true) : judgeTarget find present allowed owner r s = owner t r s := by
  simp only [judgeTarget, hfind, hpresent, hallowed, if_true]

/-- R26: without a required authority every authority field of 0 to 3 passes. -/
theorem anyAuthority_of_aims {α : Type} {r : CommandRecord} {target field : Nat} (haims : r.aims target field) (t : α)
    (s : State) : anyAuthority t s r.authority = true := by
  rw [CommandRecord.authority_of_aims haims]
  obtain ⟨-, -, hfield⟩ := haims
  exact decide_eq_true hfield

/-- R176: a command aimed at an event source, which needs neither presence nor authority, comes to its owner. -/
theorem judgeEventSource_of_aims {r : CommandRecord} {source field : Nat} {owner : Nat → Judge} {s : State}
    (haims : r.aims source field) (hsource : source ≤ 26) :
    judgeTarget eventSourceTarget presenceNotNeeded anyAuthority owner r s = owner source r s :=
  judgeTarget_of_passes (eventSourceTarget_of_aims haims hsource) rfl (anyAuthority_of_aims haims source s)

/-- R115: with no evaluation due the end of an event changes nothing. -/
theorem State.finishEvent_of_quiet {s : State} (hquiet : EvaluationQuiet s) : s.finishEvent = s := by
  have hevaluated : s.evaluateWhileDue evaluationBound = s := if_neg (by rw [hquiet]; exact Bool.false_ne_true)
  have hflag : { s.budget with evaluationDue := false } = s.budget := by rw [← hquiet]
  rw [State.finishEvent, hevaluated]
  exact congrArg (fun b => { s with budget := b }) hflag

/-- R23: the completion of the command at the head of the queue. -/
theorem State.complete_of_head {s : State} {r : CommandRecord} {rest : List CommandRecord} (v : Verdict)
    (hqueue : s.window.queue = r :: rest) : s.complete r v = s.completed r rest v.code (v.detail r.target) := by
  simp only [State.complete, State.updateWindow, State.completed, hqueue, List.tail_cons, natByte]

/-- R24: the detail word of a processor command's refusal holds the check and the target. -/
theorem State.completed_refused (s : State) (r : CommandRecord) (rest : List CommandRecord) (check code : Nat) :
    s.completed r rest (Verdict.refused check code).code ((Verdict.refused check code).detail r.target) =
      s.refusedAt r rest check code := by
  simp only [State.refusedAt, Verdict.code, Verdict.detail, wordOf, natByte, CommandRecord.target, lowByte, Origin.code,
    Nat.add_zero, Nat.mul_comm check 16]

/-- R23: the row of the head's code completes it in the state its judge leaves. -/
theorem State.takeCommand_of_taking {s t : State} {r : CommandRecord} {rest : List CommandRecord} {row : Instr}
    {judge : Judge} {v : Verdict} (hqueue : s.window.queue = r :: rest) (hrow : commandOfCode r.code = row)
    (hjudge : judge r s = (v, t)) (hkept : t.window.queue = r :: rest) (hquiet : EvaluationQuiet t) :
    s.takeCommand row judge = t.completed r rest v.code (v.detail r.target) := by
  have hcompleted := State.complete_of_head v hkept
  have hfinished : (t.completed r rest v.code (v.detail r.target)).finishEvent = _ := State.finishEvent_of_quiet hquiet
  simp only [State.takeCommand, hqueue, hrow, if_true, hjudge, hcompleted, hfinished]

/-! ## ACK_EVENT (R176) -/

section
variable {s : State} {r : CommandRecord} {rest : List CommandRecord} {source field : Nat} {kind : EventKind}

/-- R23, R176: the row completes the command with its judge's verdict, in the state the judge leaves. -/
theorem exec_ackEvent {t : State} {v : Verdict} (htaking : s.taking r rest 0x60) (hjudge : judgeAckEvent r s = (v, t))
    (hkept : t.window.queue = s.window.queue) (hbudget : t.budget = s.budget) :
    exec .ackEvent s = .next (t.completed r rest v.code (v.detail r.target)) := by
  obtain ⟨hqueue, hcode, hdue⟩ := htaking
  have hrow : commandOfCode r.code = .ackEvent := by simp only [commandOfCode, hcode]
  have htaken := State.takeCommand_of_taking hqueue hrow hjudge (hkept.trans hqueue)
    ((congrArg Budget.evaluationDue hbudget).trans hdue)
  exact congrArg Host.Outcome.next htaken

/-- R176: check 6 refuses a code that names no kind. -/
theorem exec_ackEvent_of_no_kind (htaking : s.taking r rest 0x60) (haims : r.aims source field) (hsource : source ≤ 26)
    (hkind : kindOfCode (lowOperand r.a1) = none) : exec .ackEvent s = .next (s.refusedAt r rest 6 0x85) := by
  have hjudge : judgeAckEvent r s = (.operand, s) := by
    rw [judgeAckEvent, judgeEventSource_of_aims haims hsource, hkind]
  rw [exec_ackEvent htaking hjudge rfl rfl, Verdict.operand, State.completed_refused]

/-- R176: check 7 refuses what the entries refuse. -/
theorem exec_ackEvent_of_stale (htaking : s.taking r rest 0x60) (haims : r.aims source field) (hsource : source ≤ 26)
    (hkind : kindOfCode (lowOperand r.a1) = some kind)
    (hstale : acknowledge s.events.entries source kind (magnitude 1 255 r.a2) = none) :
    exec .ackEvent s = .next (s.refusedAt r rest 7 0x89) := by
  have hjudge : judgeAckEvent r s = (.staleAck, s) := by
    simp only [judgeAckEvent, judgeEventSource_of_aims haims hsource, hkind, hstale]
  rw [exec_ackEvent htaking hjudge rfl rfl, Verdict.staleAck, State.completed_refused]

/-- R176: an acknowledgement that passes is DONE with the entries it leaves. -/
theorem exec_ackEvent_of_acknowledged {entries : List EventEntry} (htaking : s.taking r rest 0x60)
    (haims : r.aims source field) (hsource : source ≤ 26) (hkind : kindOfCode (lowOperand r.a1) = some kind)
    (hentries : acknowledge s.events.entries source kind (magnitude 1 255 r.a2) = some entries) :
    exec .ackEvent s = .next (State.done { s with events := { s.events with entries := entries } } r rest) := by
  have hjudge : judgeAckEvent r s = (.done, { s with events := { s.events with entries := entries } }) := by
    simp only [judgeAckEvent, judgeEventSource_of_aims haims hsource, hkind, hentries, State.updateEvents]
  exact exec_ackEvent htaking hjudge rfl rfl

end

/-- Settles O43: an append and an acknowledgement pass over the entries of other sources and kinds and change the first
of theirs, and ACK_EVENT's outcome is the acknowledgement's. -/
theorem eventsCountUpAndDown : Obligations.EventsCountUpAndDown := by
  intro s r rest kind source field before after e detail
  refine ⟨⟨fun hunlisted => ?placed, fun hentries hsource hkind hbefore => ?countedUp⟩,
    fun htaking haims hrange => ⟨fun houtside => ?noKind, fun hcode hunlisted => ?noEntry,
      fun hcode hentries hsource hkind hbefore => ?countedDown⟩⟩
  case placed =>
    exact congrArg (fun l => { s with events := { s.events with entries := l } }) (appendEntry_of_unlisted hunlisted)
  case countedUp =>
    have happended := (appendEntry_append (detail := detail) hbefore).trans
      (congrArg (before ++ ·) (appendEntry_cons_of_matches (rest := after) ⟨hsource, hkind⟩))
    rw [← hentries] at happended
    exact congrArg (fun l => { s with events := { s.events with entries := l } }) happended
  case noKind => exact exec_ackEvent_of_no_kind htaking haims hrange (kindOfCode_eq_none houtside)
  case noEntry =>
    have hnamed := (congrArg kindOfCode hcode).trans (kindOfCode_kindCode kind)
    exact exec_ackEvent_of_stale htaking haims hrange hnamed (acknowledge_of_unlisted hunlisted)
  case countedDown =>
    have hnamed := (congrArg kindOfCode hcode).trans (kindOfCode_kindCode kind)
    have hleft := acknowledge_of_listed (after := after) (seen := max 1 (min 255 r.a2.toNat)) ⟨hsource, hkind⟩ hbefore
    rw [← hentries] at hleft
    split_ifs at hleft ⊢ with hbelow hequal
    · exact exec_ackEvent_of_stale htaking haims hrange hnamed hleft
    · exact exec_ackEvent_of_acknowledged htaking haims hrange hnamed hleft
    · exact exec_ackEvent_of_acknowledged htaking haims hrange hnamed hleft

end Sys2Proof.Machine
end
